-- ==== Sys2Proof/Word.lean ====
section
/-! DEFINITION. The machine's three widths (spec 00_scope.md R5, R7): bytes, 16-bit words, and the 17-bit
address port. Arithmetic on them is BitVec's, modulo the width, as R7's `+_8`, `+_16`, `-_16` and `+_17`. -/

namespace Sys2Proof

/-- A byte: 8 bits, unsigned (R7; CELL_W and REG_W of R5). -/
abbrev Byte := BitVec 8

/-- A word: 16 bits, unsigned (R7; PC_W and SP_W of R5). -/
abbrev Word := BitVec 16

/-- An address as presented to the AddressSpace: 17 bits, so that 0x10000 can be presented and refused
(ADDR_PORT_W of R5, R65). -/
abbrev Addr := BitVec 17

end Sys2Proof
end

