-- ==== Sys2Proof/Config.lean ====
section
/-! DEFINITION. The implementation parameters of R5 that the model uses, and the free values: what a
register, a flag or CYC holds where the spec says it is unspecified (60_exceptions.md R182(e),
93_implementation_defined.md U2, U3). A free value has no body, so no proof can know it (assumption log 2).
The one open parameter of R5, CYC_W, does not affect the model: CYC is an unbounded integer (log 5). -/

namespace Sys2Proof

/-- MEM_SIZE, the number of cells of the AddressSpace (R5, R60). -/
abbrev Config.memSize : Nat := 65536

/-- RESET_PC: a literal, not read from memory (R5, R211, decision D2). -/
def Config.resetPc : Word := 0xFFFC

/-- RESET_SP (R5, R40). -/
def Config.resetSp : Word := 0x0100

/-- The free value number `k` of an 8-bit register (U2). DESIGN CHOICE of form, log 2; safe. -/
opaque Config.freeByte : Nat → Byte

/-- The free value number `k` of a 16-bit register (U2). DESIGN CHOICE of form, log 2; safe. -/
opaque Config.freeWord : Nat → Word

/-- The free value number `k` of a flag (U2). DESIGN CHOICE of form, log 2; safe. -/
opaque Config.freeBit : Nat → Bool

/-- The free value number `k` of the cycle counter (U3, D21). DESIGN CHOICE of form, log 2; safe. -/
opaque Config.freeInt : Nat → Int

end Sys2Proof
end

