-- ==== Sys2Proof/Syntax.lean ====
section
/-! DEFINITION. The instruction set as syntax: one constructor per row of spec/opcode_table.json (30_encoding.md
R98, R99), the addressing modes (R91 to R96), and the names a decoder rejects bytes by. -/

namespace Sys2Proof

/-- The addressing modes of R91; `none` is the unknown opcode's format UNK (R96). -/
inductive AddrMode where
  | none | immediate | zeroPage | zeroPageX | absolute
  deriving DecidableEq, Repr

/-- The operations of R102's decoder entry. -/
inductive OpKind where
  | lda | jsr | unk
  deriving DecidableEq, Repr

/-- The decoder's entry for one opcode byte (R102). The cycle numbers describe the row: CYC itself moves only through
the counted primitives (R102, R131). -/
structure Entry where
  op : OpKind
  mode : AddrMode
  baseCycles : Nat
  extra : Nat
  deriving DecidableEq, Repr

/-- Why a byte string is no instruction. The decoder is total on opcode bytes (R99, R102), so bytes are rejected only
where they end too early. -/
inductive DecodeError where
  /-- There is no byte at all. Raised by `decode []`; safe. -/
  | noOpcode
  /-- Fewer operand bytes follow the opcode than its addressing mode needs (R91). Raised by `decode`; safe. -/
  | truncated (opcode : Byte)
  /-- The opcode has neither a defined row nor an unknown-opcode row. Never raised, since the rows partition the byte
  values (R99, R106): theorem `decode_ne_noRow`; safe. -/
  | noRow (opcode : Byte)
  deriving DecidableEq, Repr

/-- The instructions. An unknown opcode has no operand (R96); every operand value is legal (R101). -/
inductive Instr where
  /-- LDA Immediate, 0xA9 (R92, R150). -/
  | ldaImm (imm8 : Byte)
  /-- LDA Zero Page, 0xA5 (R93, R151). -/
  | ldaZp (zp8 : Byte)
  /-- LDA Zero Page,X, 0xB5 (R94, R152). -/
  | ldaZpx (zp8 : Byte)
  /-- JSR Absolute, 0x20; the target is `hi8 * 256 + lo8` (R95, R97, R160). -/
  | jsrAbs (target : Word)
  -- The 252 opcode bytes with no table entry, one constructor a row: `unkHH` is the byte 0xHH (R99, R170).
  | unk00 | unk01 | unk02 | unk03 | unk04 | unk05 | unk06 | unk07 | unk08 | unk09 | unk0A | unk0B
  | unk0C | unk0D | unk0E | unk0F | unk10 | unk11 | unk12 | unk13 | unk14 | unk15 | unk16 | unk17
  | unk18 | unk19 | unk1A | unk1B | unk1C | unk1D | unk1E | unk1F | unk21 | unk22 | unk23 | unk24
  | unk25 | unk26 | unk27 | unk28 | unk29 | unk2A | unk2B | unk2C | unk2D | unk2E | unk2F | unk30
  | unk31 | unk32 | unk33 | unk34 | unk35 | unk36 | unk37 | unk38 | unk39 | unk3A | unk3B | unk3C
  | unk3D | unk3E | unk3F | unk40 | unk41 | unk42 | unk43 | unk44 | unk45 | unk46 | unk47 | unk48
  | unk49 | unk4A | unk4B | unk4C | unk4D | unk4E | unk4F | unk50 | unk51 | unk52 | unk53 | unk54
  | unk55 | unk56 | unk57 | unk58 | unk59 | unk5A | unk5B | unk5C | unk5D | unk5E | unk5F | unk60
  | unk61 | unk62 | unk63 | unk64 | unk65 | unk66 | unk67 | unk68 | unk69 | unk6A | unk6B | unk6C
  | unk6D | unk6E | unk6F | unk70 | unk71 | unk72 | unk73 | unk74 | unk75 | unk76 | unk77 | unk78
  | unk79 | unk7A | unk7B | unk7C | unk7D | unk7E | unk7F | unk80 | unk81 | unk82 | unk83 | unk84
  | unk85 | unk86 | unk87 | unk88 | unk89 | unk8A | unk8B | unk8C | unk8D | unk8E | unk8F | unk90
  | unk91 | unk92 | unk93 | unk94 | unk95 | unk96 | unk97 | unk98 | unk99 | unk9A | unk9B | unk9C
  | unk9D | unk9E | unk9F | unkA0 | unkA1 | unkA2 | unkA3 | unkA4 | unkA6 | unkA7 | unkA8 | unkAA
  | unkAB | unkAC | unkAD | unkAE | unkAF | unkB0 | unkB1 | unkB2 | unkB3 | unkB4 | unkB6 | unkB7
  | unkB8 | unkB9 | unkBA | unkBB | unkBC | unkBD | unkBE | unkBF | unkC0 | unkC1 | unkC2 | unkC3
  | unkC4 | unkC5 | unkC6 | unkC7 | unkC8 | unkC9 | unkCA | unkCB | unkCC | unkCD | unkCE | unkCF
  | unkD0 | unkD1 | unkD2 | unkD3 | unkD4 | unkD5 | unkD6 | unkD7 | unkD8 | unkD9 | unkDA | unkDB
  | unkDC | unkDD | unkDE | unkDF | unkE0 | unkE1 | unkE2 | unkE3 | unkE4 | unkE5 | unkE6 | unkE7
  | unkE8 | unkE9 | unkEA | unkEB | unkEC | unkED | unkEE | unkEF | unkF0 | unkF1 | unkF2 | unkF3
  | unkF4 | unkF5 | unkF6 | unkF7 | unkF8 | unkF9 | unkFA | unkFB | unkFC | unkFD | unkFE | unkFF
  deriving DecidableEq, Repr

end Sys2Proof
end

