-- ==== Sys2Proof/WellFormed.lean ====
section
/-! DEFINITION. What can be ill-formed in an instruction. By 30_encoding.md R101 no operand value is reserved or
illegal and no combination of opcode and operand bytes is refused, so every term of `Instr` is well-formed. What R91
does restrict is HOW MANY operand bytes stand after an opcode: that is the check here, one clause per addressing
mode. -/

namespace Sys2Proof

/-- R91: an operand byte list is well-formed for an addressing mode when it has exactly the mode's number of bytes. -/
def wellFormedOperands : AddrMode → List Byte → Bool
  | .none, [] => true
  | .immediate, [_] => true
  | .zeroPage, [_] => true
  | .zeroPageX, [_] => true
  | .absolute, [_, _] => true
  | _, _ => false

end Sys2Proof
end

