-- ==== Sys2Proof/Decode.lean ====
section
/-! DEFINITION. The decoder (30_encoding.md R90 to R106), total on any bytes and rejecting by name, and after it the
encoder, written from the same rows. -/

namespace Sys2Proof

/-- Bits [7:0] of a word: the byte at the lower address (20_memory.md R68). -/
def lowByte (w : Word) : Byte := w.extractLsb' 0 8

/-- Bits [15:8] of a word: the byte at the higher address (R68). -/
def highByte (w : Word) : Byte := w.extractLsb' 8 8

/-- The word whose high and low bytes are `hi` and `lo`: `hi * 256 + lo` (R7, R97). -/
def wordOf (hi lo : Byte) : Word := hi ++ lo

/-- R102: the decoder's entry for an opcode byte. Four bytes are defined, every other is UNK (R98, R99). -/
def entryOf (b : Byte) : Entry :=
  if b = 0xA9 then { op := .lda, mode := .immediate, baseCycles := 2, extra := 0 }
  else if b = 0xA5 then { op := .lda, mode := .zeroPage, baseCycles := 3, extra := 0 }
  else if b = 0xB5 then { op := .lda, mode := .zeroPageX, baseCycles := 3, extra := 1 }
  else if b = 0x20 then { op := .jsr, mode := .absolute, baseCycles := 6, extra := 0 }
  else { op := .unk, mode := .none, baseCycles := 1, extra := 0 }

/-- R91: how many operand bytes follow the opcode. -/
def operandBytes : AddrMode → Nat
  | .none => 0
  | .immediate => 1
  | .zeroPage => 1
  | .zeroPageX => 1
  | .absolute => 2

/-- The unknown opcodes 0x00 to 0x0F, by low digit. -/
def unknownRow0 : List (Option Instr) :=
  [some .unk00, some .unk01, some .unk02, some .unk03, some .unk04, some .unk05, some .unk06, some .unk07,
   some .unk08, some .unk09, some .unk0A, some .unk0B, some .unk0C, some .unk0D, some .unk0E, some .unk0F]

/-- The unknown opcodes 0x10 to 0x1F, by low digit. -/
def unknownRow1 : List (Option Instr) :=
  [some .unk10, some .unk11, some .unk12, some .unk13, some .unk14, some .unk15, some .unk16, some .unk17,
   some .unk18, some .unk19, some .unk1A, some .unk1B, some .unk1C, some .unk1D, some .unk1E, some .unk1F]

/-- The unknown opcodes 0x20 to 0x2F, by low digit; `none` where the byte is a defined opcode. -/
def unknownRow2 : List (Option Instr) :=
  [none, some .unk21, some .unk22, some .unk23, some .unk24, some .unk25, some .unk26, some .unk27,
   some .unk28, some .unk29, some .unk2A, some .unk2B, some .unk2C, some .unk2D, some .unk2E, some .unk2F]

/-- The unknown opcodes 0x30 to 0x3F, by low digit. -/
def unknownRow3 : List (Option Instr) :=
  [some .unk30, some .unk31, some .unk32, some .unk33, some .unk34, some .unk35, some .unk36, some .unk37,
   some .unk38, some .unk39, some .unk3A, some .unk3B, some .unk3C, some .unk3D, some .unk3E, some .unk3F]

/-- The unknown opcodes 0x40 to 0x4F, by low digit. -/
def unknownRow4 : List (Option Instr) :=
  [some .unk40, some .unk41, some .unk42, some .unk43, some .unk44, some .unk45, some .unk46, some .unk47,
   some .unk48, some .unk49, some .unk4A, some .unk4B, some .unk4C, some .unk4D, some .unk4E, some .unk4F]

/-- The unknown opcodes 0x50 to 0x5F, by low digit. -/
def unknownRow5 : List (Option Instr) :=
  [some .unk50, some .unk51, some .unk52, some .unk53, some .unk54, some .unk55, some .unk56, some .unk57,
   some .unk58, some .unk59, some .unk5A, some .unk5B, some .unk5C, some .unk5D, some .unk5E, some .unk5F]

/-- The unknown opcodes 0x60 to 0x6F, by low digit. -/
def unknownRow6 : List (Option Instr) :=
  [some .unk60, some .unk61, some .unk62, some .unk63, some .unk64, some .unk65, some .unk66, some .unk67,
   some .unk68, some .unk69, some .unk6A, some .unk6B, some .unk6C, some .unk6D, some .unk6E, some .unk6F]

/-- The unknown opcodes 0x70 to 0x7F, by low digit. -/
def unknownRow7 : List (Option Instr) :=
  [some .unk70, some .unk71, some .unk72, some .unk73, some .unk74, some .unk75, some .unk76, some .unk77,
   some .unk78, some .unk79, some .unk7A, some .unk7B, some .unk7C, some .unk7D, some .unk7E, some .unk7F]

/-- The unknown opcodes 0x80 to 0x8F, by low digit. -/
def unknownRow8 : List (Option Instr) :=
  [some .unk80, some .unk81, some .unk82, some .unk83, some .unk84, some .unk85, some .unk86, some .unk87,
   some .unk88, some .unk89, some .unk8A, some .unk8B, some .unk8C, some .unk8D, some .unk8E, some .unk8F]

/-- The unknown opcodes 0x90 to 0x9F, by low digit. -/
def unknownRow9 : List (Option Instr) :=
  [some .unk90, some .unk91, some .unk92, some .unk93, some .unk94, some .unk95, some .unk96, some .unk97,
   some .unk98, some .unk99, some .unk9A, some .unk9B, some .unk9C, some .unk9D, some .unk9E, some .unk9F]

/-- The unknown opcodes 0xA0 to 0xAF, by low digit; `none` where the byte is a defined opcode. -/
def unknownRowA : List (Option Instr) :=
  [some .unkA0, some .unkA1, some .unkA2, some .unkA3, some .unkA4, none, some .unkA6, some .unkA7,
   some .unkA8, none, some .unkAA, some .unkAB, some .unkAC, some .unkAD, some .unkAE, some .unkAF]

/-- The unknown opcodes 0xB0 to 0xBF, by low digit; `none` where the byte is a defined opcode. -/
def unknownRowB : List (Option Instr) :=
  [some .unkB0, some .unkB1, some .unkB2, some .unkB3, some .unkB4, none, some .unkB6, some .unkB7,
   some .unkB8, some .unkB9, some .unkBA, some .unkBB, some .unkBC, some .unkBD, some .unkBE, some .unkBF]

/-- The unknown opcodes 0xC0 to 0xCF, by low digit. -/
def unknownRowC : List (Option Instr) :=
  [some .unkC0, some .unkC1, some .unkC2, some .unkC3, some .unkC4, some .unkC5, some .unkC6, some .unkC7,
   some .unkC8, some .unkC9, some .unkCA, some .unkCB, some .unkCC, some .unkCD, some .unkCE, some .unkCF]

/-- The unknown opcodes 0xD0 to 0xDF, by low digit. -/
def unknownRowD : List (Option Instr) :=
  [some .unkD0, some .unkD1, some .unkD2, some .unkD3, some .unkD4, some .unkD5, some .unkD6, some .unkD7,
   some .unkD8, some .unkD9, some .unkDA, some .unkDB, some .unkDC, some .unkDD, some .unkDE, some .unkDF]

/-- The unknown opcodes 0xE0 to 0xEF, by low digit. -/
def unknownRowE : List (Option Instr) :=
  [some .unkE0, some .unkE1, some .unkE2, some .unkE3, some .unkE4, some .unkE5, some .unkE6, some .unkE7,
   some .unkE8, some .unkE9, some .unkEA, some .unkEB, some .unkEC, some .unkED, some .unkEE, some .unkEF]

/-- The unknown opcodes 0xF0 to 0xFF, by low digit. -/
def unknownRowF : List (Option Instr) :=
  [some .unkF0, some .unkF1, some .unkF2, some .unkF3, some .unkF4, some .unkF5, some .unkF6, some .unkF7,
   some .unkF8, some .unkF9, some .unkFA, some .unkFB, some .unkFC, some .unkFD, some .unkFE, some .unkFF]

/-- The unknown opcodes of the map (R99), as 16 rows of 16: row by the byte's high digit, column by its low digit. -/
def unknownMap : List (List (Option Instr)) :=
  [unknownRow0, unknownRow1, unknownRow2, unknownRow3, unknownRow4, unknownRow5, unknownRow6, unknownRow7,
   unknownRow8, unknownRow9, unknownRowA, unknownRowB, unknownRowC, unknownRowD, unknownRowE, unknownRowF]

/-- The unknown-opcode instruction of a byte, `none` where the byte is one of the four defined opcodes (R99). -/
def unknownOf (b : Byte) : Option Instr :=
  ((unknownMap.getD (b.toNat / 16) []).getD (b.toNat % 16) none)

/-- The decoder on a byte string in memory order: the instruction it begins with and the bytes after it (R90, R91,
R97, R102). Format UNK takes no operand byte (R96). -/
def decode : List Byte → Except DecodeError (Instr × List Byte)
  | [] => .error .noOpcode
  | op :: rest =>
    match (entryOf op).mode, rest with
    | .immediate, v :: rest => .ok (.ldaImm v, rest)
    | .zeroPage, zp :: rest => .ok (.ldaZp zp, rest)
    | .zeroPageX, zp :: rest => .ok (.ldaZpx zp, rest)
    | .absolute, lo :: hi :: rest => .ok (.jsrAbs (wordOf hi lo), rest)
    | .none, rest =>
      match unknownOf op with
      | some i => .ok (i, rest)
      | none => .error (.noRow op)
    | _, _ => .error (.truncated op)

/-- The bytes of an instruction numbered as spec/opcode_table.json numbers its bits: byte `k` is bits `8k+7 .. 8k` of
`w`, the bits at and above `nbits` are 0, and three bytes are laid out, the longest instruction's length (R91). -/
def tableBytes (nbits w : Nat) : List Byte :=
  [BitVec.ofNat 8 (w % 2 ^ nbits), BitVec.ofNat 8 (w % 2 ^ nbits / 256), BitVec.ofNat 8 (w % 2 ^ nbits / 65536)]

/-- What the decoder reads from an instruction whose bits are `w`. -/
def decodeTableWord (nbits w : Nat) : Option Instr :=
  match decode (tableBytes nbits w) with
  | .ok (i, _) => some i
  | .error _ => none

/-- The opcode byte of an instruction: the `match` column of its row of spec/opcode_table.json (R98, R99). -/
def opcodeOf : Instr → Byte
  | .ldaImm _ => 0xA9
  | .ldaZp _ => 0xA5
  | .ldaZpx _ => 0xB5
  | .jsrAbs _ => 0x20
  | .unk00 => 0x00
  | .unk01 => 0x01
  | .unk02 => 0x02
  | .unk03 => 0x03
  | .unk04 => 0x04
  | .unk05 => 0x05
  | .unk06 => 0x06
  | .unk07 => 0x07
  | .unk08 => 0x08
  | .unk09 => 0x09
  | .unk0A => 0x0A
  | .unk0B => 0x0B
  | .unk0C => 0x0C
  | .unk0D => 0x0D
  | .unk0E => 0x0E
  | .unk0F => 0x0F
  | .unk10 => 0x10
  | .unk11 => 0x11
  | .unk12 => 0x12
  | .unk13 => 0x13
  | .unk14 => 0x14
  | .unk15 => 0x15
  | .unk16 => 0x16
  | .unk17 => 0x17
  | .unk18 => 0x18
  | .unk19 => 0x19
  | .unk1A => 0x1A
  | .unk1B => 0x1B
  | .unk1C => 0x1C
  | .unk1D => 0x1D
  | .unk1E => 0x1E
  | .unk1F => 0x1F
  | .unk21 => 0x21
  | .unk22 => 0x22
  | .unk23 => 0x23
  | .unk24 => 0x24
  | .unk25 => 0x25
  | .unk26 => 0x26
  | .unk27 => 0x27
  | .unk28 => 0x28
  | .unk29 => 0x29
  | .unk2A => 0x2A
  | .unk2B => 0x2B
  | .unk2C => 0x2C
  | .unk2D => 0x2D
  | .unk2E => 0x2E
  | .unk2F => 0x2F
  | .unk30 => 0x30
  | .unk31 => 0x31
  | .unk32 => 0x32
  | .unk33 => 0x33
  | .unk34 => 0x34
  | .unk35 => 0x35
  | .unk36 => 0x36
  | .unk37 => 0x37
  | .unk38 => 0x38
  | .unk39 => 0x39
  | .unk3A => 0x3A
  | .unk3B => 0x3B
  | .unk3C => 0x3C
  | .unk3D => 0x3D
  | .unk3E => 0x3E
  | .unk3F => 0x3F
  | .unk40 => 0x40
  | .unk41 => 0x41
  | .unk42 => 0x42
  | .unk43 => 0x43
  | .unk44 => 0x44
  | .unk45 => 0x45
  | .unk46 => 0x46
  | .unk47 => 0x47
  | .unk48 => 0x48
  | .unk49 => 0x49
  | .unk4A => 0x4A
  | .unk4B => 0x4B
  | .unk4C => 0x4C
  | .unk4D => 0x4D
  | .unk4E => 0x4E
  | .unk4F => 0x4F
  | .unk50 => 0x50
  | .unk51 => 0x51
  | .unk52 => 0x52
  | .unk53 => 0x53
  | .unk54 => 0x54
  | .unk55 => 0x55
  | .unk56 => 0x56
  | .unk57 => 0x57
  | .unk58 => 0x58
  | .unk59 => 0x59
  | .unk5A => 0x5A
  | .unk5B => 0x5B
  | .unk5C => 0x5C
  | .unk5D => 0x5D
  | .unk5E => 0x5E
  | .unk5F => 0x5F
  | .unk60 => 0x60
  | .unk61 => 0x61
  | .unk62 => 0x62
  | .unk63 => 0x63
  | .unk64 => 0x64
  | .unk65 => 0x65
  | .unk66 => 0x66
  | .unk67 => 0x67
  | .unk68 => 0x68
  | .unk69 => 0x69
  | .unk6A => 0x6A
  | .unk6B => 0x6B
  | .unk6C => 0x6C
  | .unk6D => 0x6D
  | .unk6E => 0x6E
  | .unk6F => 0x6F
  | .unk70 => 0x70
  | .unk71 => 0x71
  | .unk72 => 0x72
  | .unk73 => 0x73
  | .unk74 => 0x74
  | .unk75 => 0x75
  | .unk76 => 0x76
  | .unk77 => 0x77
  | .unk78 => 0x78
  | .unk79 => 0x79
  | .unk7A => 0x7A
  | .unk7B => 0x7B
  | .unk7C => 0x7C
  | .unk7D => 0x7D
  | .unk7E => 0x7E
  | .unk7F => 0x7F
  | .unk80 => 0x80
  | .unk81 => 0x81
  | .unk82 => 0x82
  | .unk83 => 0x83
  | .unk84 => 0x84
  | .unk85 => 0x85
  | .unk86 => 0x86
  | .unk87 => 0x87
  | .unk88 => 0x88
  | .unk89 => 0x89
  | .unk8A => 0x8A
  | .unk8B => 0x8B
  | .unk8C => 0x8C
  | .unk8D => 0x8D
  | .unk8E => 0x8E
  | .unk8F => 0x8F
  | .unk90 => 0x90
  | .unk91 => 0x91
  | .unk92 => 0x92
  | .unk93 => 0x93
  | .unk94 => 0x94
  | .unk95 => 0x95
  | .unk96 => 0x96
  | .unk97 => 0x97
  | .unk98 => 0x98
  | .unk99 => 0x99
  | .unk9A => 0x9A
  | .unk9B => 0x9B
  | .unk9C => 0x9C
  | .unk9D => 0x9D
  | .unk9E => 0x9E
  | .unk9F => 0x9F
  | .unkA0 => 0xA0
  | .unkA1 => 0xA1
  | .unkA2 => 0xA2
  | .unkA3 => 0xA3
  | .unkA4 => 0xA4
  | .unkA6 => 0xA6
  | .unkA7 => 0xA7
  | .unkA8 => 0xA8
  | .unkAA => 0xAA
  | .unkAB => 0xAB
  | .unkAC => 0xAC
  | .unkAD => 0xAD
  | .unkAE => 0xAE
  | .unkAF => 0xAF
  | .unkB0 => 0xB0
  | .unkB1 => 0xB1
  | .unkB2 => 0xB2
  | .unkB3 => 0xB3
  | .unkB4 => 0xB4
  | .unkB6 => 0xB6
  | .unkB7 => 0xB7
  | .unkB8 => 0xB8
  | .unkB9 => 0xB9
  | .unkBA => 0xBA
  | .unkBB => 0xBB
  | .unkBC => 0xBC
  | .unkBD => 0xBD
  | .unkBE => 0xBE
  | .unkBF => 0xBF
  | .unkC0 => 0xC0
  | .unkC1 => 0xC1
  | .unkC2 => 0xC2
  | .unkC3 => 0xC3
  | .unkC4 => 0xC4
  | .unkC5 => 0xC5
  | .unkC6 => 0xC6
  | .unkC7 => 0xC7
  | .unkC8 => 0xC8
  | .unkC9 => 0xC9
  | .unkCA => 0xCA
  | .unkCB => 0xCB
  | .unkCC => 0xCC
  | .unkCD => 0xCD
  | .unkCE => 0xCE
  | .unkCF => 0xCF
  | .unkD0 => 0xD0
  | .unkD1 => 0xD1
  | .unkD2 => 0xD2
  | .unkD3 => 0xD3
  | .unkD4 => 0xD4
  | .unkD5 => 0xD5
  | .unkD6 => 0xD6
  | .unkD7 => 0xD7
  | .unkD8 => 0xD8
  | .unkD9 => 0xD9
  | .unkDA => 0xDA
  | .unkDB => 0xDB
  | .unkDC => 0xDC
  | .unkDD => 0xDD
  | .unkDE => 0xDE
  | .unkDF => 0xDF
  | .unkE0 => 0xE0
  | .unkE1 => 0xE1
  | .unkE2 => 0xE2
  | .unkE3 => 0xE3
  | .unkE4 => 0xE4
  | .unkE5 => 0xE5
  | .unkE6 => 0xE6
  | .unkE7 => 0xE7
  | .unkE8 => 0xE8
  | .unkE9 => 0xE9
  | .unkEA => 0xEA
  | .unkEB => 0xEB
  | .unkEC => 0xEC
  | .unkED => 0xED
  | .unkEE => 0xEE
  | .unkEF => 0xEF
  | .unkF0 => 0xF0
  | .unkF1 => 0xF1
  | .unkF2 => 0xF2
  | .unkF3 => 0xF3
  | .unkF4 => 0xF4
  | .unkF5 => 0xF5
  | .unkF6 => 0xF6
  | .unkF7 => 0xF7
  | .unkF8 => 0xF8
  | .unkF9 => 0xF9
  | .unkFA => 0xFA
  | .unkFB => 0xFB
  | .unkFC => 0xFC
  | .unkFD => 0xFD
  | .unkFE => 0xFE
  | .unkFF => 0xFF

/-- The operand bytes of an instruction, in memory order (R92 to R97). -/
def operandsOf : Instr → List Byte
  | .ldaImm imm8 => [imm8]
  | .ldaZp zp8 => [zp8]
  | .ldaZpx zp8 => [zp8]
  | .jsrAbs target => [lowByte target, highByte target]
  | .unk00 | .unk01 | .unk02 | .unk03 | .unk04 | .unk05
  | .unk06 | .unk07 | .unk08 | .unk09 | .unk0A | .unk0B
  | .unk0C | .unk0D | .unk0E | .unk0F | .unk10 | .unk11
  | .unk12 | .unk13 | .unk14 | .unk15 | .unk16 | .unk17
  | .unk18 | .unk19 | .unk1A | .unk1B | .unk1C | .unk1D
  | .unk1E | .unk1F | .unk21 | .unk22 | .unk23 | .unk24
  | .unk25 | .unk26 | .unk27 | .unk28 | .unk29 | .unk2A
  | .unk2B | .unk2C | .unk2D | .unk2E | .unk2F | .unk30
  | .unk31 | .unk32 | .unk33 | .unk34 | .unk35 | .unk36
  | .unk37 | .unk38 | .unk39 | .unk3A | .unk3B | .unk3C
  | .unk3D | .unk3E | .unk3F | .unk40 | .unk41 | .unk42
  | .unk43 | .unk44 | .unk45 | .unk46 | .unk47 | .unk48
  | .unk49 | .unk4A | .unk4B | .unk4C | .unk4D | .unk4E
  | .unk4F | .unk50 | .unk51 | .unk52 | .unk53 | .unk54
  | .unk55 | .unk56 | .unk57 | .unk58 | .unk59 | .unk5A
  | .unk5B | .unk5C | .unk5D | .unk5E | .unk5F | .unk60
  | .unk61 | .unk62 | .unk63 | .unk64 | .unk65 | .unk66
  | .unk67 | .unk68 | .unk69 | .unk6A | .unk6B | .unk6C
  | .unk6D | .unk6E | .unk6F | .unk70 | .unk71 | .unk72
  | .unk73 | .unk74 | .unk75 | .unk76 | .unk77 | .unk78
  | .unk79 | .unk7A | .unk7B | .unk7C | .unk7D | .unk7E
  | .unk7F | .unk80 | .unk81 | .unk82 | .unk83 | .unk84
  | .unk85 | .unk86 | .unk87 | .unk88 | .unk89 | .unk8A
  | .unk8B | .unk8C | .unk8D | .unk8E | .unk8F | .unk90
  | .unk91 | .unk92 | .unk93 | .unk94 | .unk95 | .unk96
  | .unk97 | .unk98 | .unk99 | .unk9A | .unk9B | .unk9C
  | .unk9D | .unk9E | .unk9F | .unkA0 | .unkA1 | .unkA2
  | .unkA3 | .unkA4 | .unkA6 | .unkA7 | .unkA8 | .unkAA
  | .unkAB | .unkAC | .unkAD | .unkAE | .unkAF | .unkB0
  | .unkB1 | .unkB2 | .unkB3 | .unkB4 | .unkB6 | .unkB7
  | .unkB8 | .unkB9 | .unkBA | .unkBB | .unkBC | .unkBD
  | .unkBE | .unkBF | .unkC0 | .unkC1 | .unkC2 | .unkC3
  | .unkC4 | .unkC5 | .unkC6 | .unkC7 | .unkC8 | .unkC9
  | .unkCA | .unkCB | .unkCC | .unkCD | .unkCE | .unkCF
  | .unkD0 | .unkD1 | .unkD2 | .unkD3 | .unkD4 | .unkD5
  | .unkD6 | .unkD7 | .unkD8 | .unkD9 | .unkDA | .unkDB
  | .unkDC | .unkDD | .unkDE | .unkDF | .unkE0 | .unkE1
  | .unkE2 | .unkE3 | .unkE4 | .unkE5 | .unkE6 | .unkE7
  | .unkE8 | .unkE9 | .unkEA | .unkEB | .unkEC | .unkED
  | .unkEE | .unkEF | .unkF0 | .unkF1 | .unkF2 | .unkF3
  | .unkF4 | .unkF5 | .unkF6 | .unkF7 | .unkF8 | .unkF9
  | .unkFA | .unkFB | .unkFC | .unkFD | .unkFE | .unkFF => []

/-- The encoder: the opcode byte, then the operand bytes, lowest address first (R90). -/
def encode (i : Instr) : List Byte := opcodeOf i :: operandsOf i

/-- The instruction is one of the 252 unknown opcodes (R99): its row's operation is UNK. -/
def isUnknown (i : Instr) : Bool := (entryOf (opcodeOf i)).op == .unk

end Sys2Proof
end

