-- ==== Sys2Proof/Machine/State.lean ====
section
/-! DEFINITION. The machine's state as plain data: every element of 10_state.md R20, and three fields of the model's
own (the host's transactions not yet taken, what the host got back, the index of the next free value). The fault and
refusal reasons, and the state after reset. -/

namespace Sys2Proof.Machine

/-- MEM (R35, R60): the cells that do not hold 0x00, as (address, byte), addresses strictly rising. An unlisted
address reads 0x00, the value reset gives every cell (R40, R61). -/
abbrev Memory := List Host.Cell

/-- STATUS, the run and fault status (R36). -/
inductive Status where
  /-- Constructed and never reset: every other field is arbitrary (R39, U1). -/
  | notReset
  /-- Reset, or a run has completed normally. -/
  | idle
  /-- Inside a run. -/
  | running
  /-- The last run ended with `OutOfRange(addr)` (R182). -/
  | faulted (addr : Addr)
  deriving DecidableEq, Repr

/-- One diagnostic record (R37, R171): the unknown byte and the address it was fetched from. -/
structure DiagRecord where
  opcode : Byte
  addr : Word
  deriving DecidableEq, Repr

/-- What the host's `inspect` gets back (R13, R43): every element of R20. -/
structure Snapshot where
  a : Byte
  x : Byte
  y : Byte
  pc : Word
  sp : Word
  c : Bool
  z : Bool
  i : Bool
  d : Bool
  b : Bool
  v : Bool
  n : Bool
  cyc : Int
  mem : Memory
  status : Status
  diag : List DiagRecord
  deriving DecidableEq, Repr

/-- The host's transactions (R9, R13). An address is presented on the 17-bit port (R5). Construction is not one of
them: it is any state whose STATUS is `notReset` (R39). -/
inductive HostRequest where
  /-- `Reset` (R210). -/
  | reset
  /-- `initialise()` of the AddressSpace (R61). -/
  | initialise
  /-- `read(address)` (R62). -/
  | read (addr : Addr)
  /-- `write(address, byte)` (R63). -/
  | write (addr : Addr) (byte : Byte)
  /-- `writeWord(address, value, cycleBudget)`, the counter being the host's own (R64). -/
  | writeWord (addr : Addr) (value : Word) (counter : Int)
  /-- `Run(budget)` (R120). -/
  | run (budget : Int)
  /-- Read access to every register, flag and record (R13, R43). -/
  | inspect
  deriving DecidableEq, Repr

/-- What the host gets back (R9, R13, R196). -/
inductive HostReply where
  /-- A `Reset`, `initialise` or `write` was done. -/
  | done
  /-- The byte a `read` answers (R62). -/
  | byte (value : Byte)
  /-- A `writeWord` was done: the caller's counter, decremented by 2 (R64). -/
  | counter (value : Int)
  /-- A host access failed, or a run ended, with `OutOfRange(addr)` (R181, R182, R196). -/
  | outOfRange (addr : Addr)
  /-- A run completed normally (R138). -/
  | completed
  /-- The transaction was refused and changed nothing (R13, R183, R213). -/
  | refused
  /-- The answer of `inspect`. -/
  | snapshot (value : Snapshot)
  deriving DecidableEq, Repr

/-- The reasons the machine stops with a fault. -/
inductive Fault where
  /-- `OutOfRange(addr)` (R181). The memory primitives of Ops answer with it; an instruction turns it into a next state
  with STATUS `faulted addr` (R182). As the outcome of a step it is raised only by a machine whose STATUS is already
  `faulted addr` and whose host asks nothing more: the faulted state is terminal until reset (R183, U2). Safe. -/
  | outOfRange (addr : Addr)
  deriving DecidableEq, Repr

/-- The reasons a step is refused. -/
inductive Refusal where
  /-- An instruction without a meaning in this model, named as the opcode table names it. No arm of `exec` raises it:
  every instruction has its meaning. Safe. -/
  | notModelled (mnemonic : String)
  /-- The fetched bytes decode to no instruction. Raised by `runInstr`, and by no state at all, since the decoder is
  total on fetched bytes (R99): theorem `fetched_bytes_decode`. Safe. -/
  | undecodable (why : DecodeError)
  deriving DecidableEq, Repr

/-- The state of the machine. The first sixteen fields are R20's table. -/
structure State where
  /-- A, the accumulator (R21). -/
  a : Byte
  /-- X, index register (R22). -/
  x : Byte
  /-- Y, index register (R23). -/
  y : Byte
  /-- PC, program counter (R24). -/
  pc : Word
  /-- SP, stack pointer (R25). -/
  sp : Word
  /-- C, Carry (R26). -/
  c : Bool
  /-- Z, Zero (R27). -/
  z : Bool
  /-- I, InterruptDisable (R28). -/
  i : Bool
  /-- D, Decimal (R29). -/
  d : Bool
  /-- B, Break (R30). -/
  b : Bool
  /-- V, Overflow (R31). -/
  v : Bool
  /-- N, Negative (R32). -/
  n : Bool
  /-- CYC, the cycle counter (R34, D7). -/
  cyc : Int
  /-- MEM, the AddressSpace (R35). -/
  mem : Memory
  /-- STATUS (R36). -/
  status : Status
  /-- DIAG, the diagnostic log, oldest first (R37). -/
  diag : List DiagRecord
  /-- The model's own: the host's transactions not yet taken, in order (R9, R13). DESIGN CHOICE, log 3. -/
  pending : List HostRequest
  /-- The model's own: what the host got back, oldest first (R9, R196). DESIGN CHOICE, log 3. -/
  replies : List HostReply
  /-- The model's own: the index of the next free value. DESIGN CHOICE, log 2; no statement rests on it. -/
  free : Nat
  deriving DecidableEq, Repr

/-- The machine right after reset (R40, R210). CYC is not defined by reset: 0 is the model's value (DESIGN CHOICE, log
1; unsafe). The model's own fields are empty (log 2, log 3). -/
def State.reset : State where
  a := 0x00
  x := 0x00
  y := 0x00
  pc := Config.resetPc
  sp := Config.resetSp
  c := false
  z := false
  i := false
  d := false
  b := false
  v := false
  n := false
  cyc := 0
  mem := []
  status := .idle
  diag := []
  pending := []
  replies := []
  free := 0

end Sys2Proof.Machine
end

