-- ==== Sys2Proof/Machine/Ops.lean ====
section
/-! DEFINITION. The named operations over memory and registers: cells, the two bounds-checked primitives (20_memory.md
R65), the counted primitives (40_engine_loop_and_primitives.md R122 to R125), the diagnostic record (R171), and taking
the fatal fault as one shared operation (60_exceptions.md R182). There is no return from a fault (R188): only Reset
leaves the faulted status (R183), and it stands in HostOps. -/

namespace Sys2Proof.Machine

/-- Cell `a`: the listed byte, 0x00 where none is listed (R35, R40). -/
def Memory.read : Memory → Nat → Byte
  | [], _ => 0
  | (k, v) :: m, a => if k = a then v else Memory.read m a

/-- The memory with cell `a` no longer listed, so that it reads 0x00. -/
def Memory.erase (m : Memory) (a : Nat) : Memory := m.filter (fun cell => cell.1 != a)

/-- The memory with `(a, b)` listed before the first higher address. -/
def Memory.insert : Memory → Nat → Byte → Memory
  | [], a, b => [(a, b)]
  | (k, v) :: m, a, b => if a < k then (a, b) :: (k, v) :: m else (k, v) :: Memory.insert m a b

/-- `MEM[a] <- b`: no other cell changes (R63). Writing 0x00 lists nothing, so equal memories are equal lists. -/
def Memory.write (m : Memory) (a : Nat) (b : Byte) : Memory :=
  if b = 0 then Memory.erase m a else Memory.insert (Memory.erase m a) a b

/-- The canonical form: addresses strictly rising and below MEM_SIZE, no listed byte 0x00. -/
abbrev Memory.wf (m : Memory) : Prop :=
  m.Pairwise (fun p q => p.1 < q.1) ∧ ∀ cell ∈ m, cell.1 < Config.memSize ∧ cell.2 ≠ 0

/-- `zext_17` of a 16-bit register value (R7, R65). -/
def zext17 (w : Word) : Addr := w.setWidth 17

/-- `MemRead(addr, 1)`, the AddressSpace's `read` (R62, R65). -/
def memRead1 (m : Memory) (addr : Addr) : Except Fault Byte :=
  if addr.toNat ≥ Config.memSize then .error (.outOfRange addr) else .ok (m.read addr.toNat)

/-- `MemRead(addr, 2)`: both byte addresses are checked, the second formed in 17 bits without wrap; little-endian
(R65, R68). -/
def memRead2 (m : Memory) (addr : Addr) : Except Fault Word := do
  let lo ← memRead1 m addr
  let hi ← memRead1 m (addr + 1)
  pure (wordOf hi lo)

/-- `MemWrite(addr, 1, v)`, the AddressSpace's `write` (R63, R65). -/
def memWrite1 (m : Memory) (addr : Addr) (v : Byte) : Except Fault Memory :=
  if addr.toNat ≥ Config.memSize then .error (.outOfRange addr) else .ok (m.write addr.toNat v)

/-- `MemWrite(addr, 2, v)`: both byte addresses are checked before either byte is stored; low byte at the lower
address (R64, R65, D6). -/
def memWrite2 (m : Memory) (addr : Addr) (v : Word) : Except Fault Memory :=
  if addr.toNat ≥ Config.memSize then .error (.outOfRange addr)
  else if (addr + 1).toNat ≥ Config.memSize then .error (.outOfRange (addr + 1))
  else .ok ((m.write addr.toNat (lowByte v)).write (addr + 1).toNat (highByte v))

/-- `FetchByte()`: the byte at PC; PC + 1 modulo 65536, CYC - 1 (R122). -/
def fetchByte (s : State) : Except Fault (Byte × State) := do
  let b ← memRead1 s.mem (zext17 s.pc)
  pure (b, { s with pc := s.pc + 1, cyc := s.cyc - 1 })

/-- `FetchWord()`: the little-endian word at PC; PC + 2 modulo 65536, CYC - 2 (R123). At PC = 0xFFFF it raises
`OutOfRange(0x10000)` (D5). -/
def fetchWord (s : State) : Except Fault (Word × State) := do
  let w ← memRead2 s.mem (zext17 s.pc)
  pure (w, { s with pc := s.pc + 2, cyc := s.cyc - 2 })

/-- `ReadByte(addr)`: CYC - 1, PC unchanged (R124). -/
def readByte (addr : Addr) (s : State) : Except Fault (Byte × State) := do
  let b ← memRead1 s.mem addr
  pure (b, { s with cyc := s.cyc - 1 })

/-- `WriteWordCounted(addr, v)`: CYC - 2 (R125). -/
def writeWordCounted (addr : Addr) (v : Word) (s : State) : Except Fault State := do
  let m ← memWrite2 s.mem addr v
  pure { s with mem := m, cyc := s.cyc - 2 }

/-- The step's `FetchByte()` of a byte that the decoded instruction already holds: what is left of it is its effect on
PC and CYC, and its check. Reads have no side effect (R62). -/
def skipByte (s : State) : Except Fault State := do
  let r ← fetchByte s
  pure r.2

/-- The step's `FetchWord()` of a word that the decoded instruction already holds. -/
def skipWord (s : State) : Except Fault State := do
  let r ← fetchWord s
  pure r.2

/-- `emit Diag(opcode, addr)`: append one record to DIAG (R171). -/
def emitDiag (opcode : Byte) (addr : Word) (s : State) : State :=
  { s with diag := s.diag ++ [{ opcode := opcode, addr := addr }] }

/-- One more answer to the host (R9, R196). -/
def reply (r : HostReply) (s : State) : State := { s with replies := s.replies ++ [r] }

/-- TAKING THE FAULT `OutOfRange(addr)` (R182), from the state before the step: the run stops, STATUS becomes `faulted
addr`, the address is delivered to the host, MEM and DIAG are as before, and PC, SP, A, X, Y, the seven flags and CYC
are unspecified: free values (U2, D21). -/
def takeOutOfRange (addr : Addr) (s : State) : State :=
  { s with
    a := Config.freeByte s.free
    x := Config.freeByte (s.free + 1)
    y := Config.freeByte (s.free + 2)
    pc := Config.freeWord s.free
    sp := Config.freeWord (s.free + 1)
    c := Config.freeBit s.free
    z := Config.freeBit (s.free + 1)
    i := Config.freeBit (s.free + 2)
    d := Config.freeBit (s.free + 3)
    b := Config.freeBit (s.free + 4)
    v := Config.freeBit (s.free + 5)
    n := Config.freeBit (s.free + 6)
    cyc := Config.freeInt s.free
    status := .faulted addr
    replies := s.replies ++ [.outOfRange addr]
    free := s.free + 7 }

/-- A fault raised in a step begun at `s` (R182). -/
def raise (f : Fault) (s : State) : Host.Outcome State Fault Refusal :=
  match f with
  | .outOfRange addr => .next (takeOutOfRange addr s)

/-- The end of a step begun at `s`: it completes at the next opcode boundary, or raises (R121). No engine step raises
after a store (R182(d)): the one store of the instruction set is JSR's, and nothing after it can fail (R160). -/
def finish (s : State) (r : Except Fault State) : Host.Outcome State Fault Refusal :=
  match r with
  | .ok t => .next t
  | .error f => raise f s

end Sys2Proof.Machine
end

