-- ==== Sys2Proof/Machine/Operands.lean ====
section
/-! DEFINITION. The addressing modes (40_engine_loop_and_primitives.md R126 to R129), each from the operand the decoded
instruction holds: the mode's fetch is taken for its effect on PC and CYC, then the mode yields its value. -/

namespace Sys2Proof.Machine

/-- `zext_16` of a zero-page byte, presented on the 17-bit port (R97, R127). -/
def zeroPageAddr (zp : Byte) : Addr := zp.setWidth 17

/-- Immediate (R126): the operand is the fetched byte. 1 cycle, PC + 1. -/
def modeImmediate (imm8 : Byte) (s : State) : Except Fault (Byte × State) := do
  let s ← skipByte s
  pure (imm8, s)

/-- Zero Page (R127): the effective address is the fetched byte. 1 cycle, PC + 1. -/
def modeZeroPage (zp8 : Byte) (s : State) : Except Fault (Addr × State) := do
  let s ← skipByte s
  pure (zeroPageAddr zp8, s)

/-- Zero Page,X (R128): the effective address is the 8-bit sum of the fetched byte and X, its carry discarded; the
index addition costs one cycle more. 2 cycles, PC + 1; no flag is affected (R134). -/
def modeZeroPageX (zp8 : Byte) (s : State) : Except Fault (Addr × State) := do
  let s ← skipByte s
  pure (zeroPageAddr (zp8 + s.x), { s with cyc := s.cyc - 1 })

/-- Absolute (R129): the target is the fetched word. 2 cycles, PC + 2; it can raise `OutOfRange(0x10000)`. -/
def modeAbsolute (target : Word) (s : State) : Except Fault (Word × State) := do
  let s ← skipWord s
  pure (target, s)

end Sys2Proof.Machine
end

