-- ==== Sys2Proof/Machine/Call.lean ====
section
/-! DEFINITION. Family JSR (42_subroutine_call.md R160 to R162): the one control transfer, the one store and the one
instruction that can fault. -/

namespace Sys2Proof.Machine

/-- JSR Absolute, 0x20 (R160), sub-operations in the rule's order: the opcode fetch, the target, the word PC - 1 at
SP, then PC, the one additional cycle, and SP + 1. -/
def execJsrAbs (target : Word) (s : State) : Host.Outcome State Fault Refusal :=
  finish s do
    let s1 ← skipByte s
    let t ← modeAbsolute target s1
    let ret := t.2.pc - 1
    let s2 ← writeWordCounted (zext17 t.2.sp) ret t.2
    pure { s2 with pc := t.1, cyc := s2.cyc - 1, sp := s2.sp + 1 }

end Sys2Proof.Machine
end

