-- ==== Sys2Proof/Machine/Flags.lean ====
section
/-! DEFINITION. The one flag computation of the hardware (40_engine_loop_and_primitives.md R130). -/

namespace Sys2Proof.Machine

/-- `v == 0x00`, the Zero flag of a result (R130). -/
def zeroFlag (v : Byte) : Bool := v == 0

/-- `v[7]`, the Negative flag of a result (R130). -/
def negativeFlag (v : Byte) : Bool := v.getLsbD 7

/-- `SetZN(v)`: Z and N from the result; C, I, D, B and V are left alone (R130). -/
def setZN (v : Byte) (s : State) : State := { s with z := zeroFlag v, n := negativeFlag v }

end Sys2Proof.Machine
end

