-- ==== Sys2Proof/Machine/Load.lean ====
section
/-! DEFINITION. Family LDA (41_load_accumulator.md R150 to R152). Each meaning is the whole step from the opcode boundary:
the opcode fetch of R121 (its effect on PC and CYC), then the instruction's pseudocode. -/

namespace Sys2Proof.Machine

/-- `A <- v; SetZN(A)` (R150 to R152). -/
def loadA (v : Byte) (s : State) : State := setZN v { s with a := v }

/-- LDA Immediate, 0xA9 (R150). -/
def execLdaImm (imm8 : Byte) (s : State) : Host.Outcome State Fault Refusal :=
  finish s do
    let s1 ← skipByte s
    let r ← modeImmediate imm8 s1
    pure (loadA r.1 r.2)

/-- LDA Zero Page, 0xA5 (R151). -/
def execLdaZp (zp8 : Byte) (s : State) : Host.Outcome State Fault Refusal :=
  finish s do
    let s1 ← skipByte s
    let ea ← modeZeroPage zp8 s1
    let r ← readByte ea.1 ea.2
    pure (loadA r.1 r.2)

/-- LDA Zero Page,X, 0xB5 (R152). -/
def execLdaZpx (zp8 : Byte) (s : State) : Host.Outcome State Fault Refusal :=
  finish s do
    let s1 ← skipByte s
    let ea ← modeZeroPageX zp8 s1
    let r ← readByte ea.1 ea.2
    pure (loadA r.1 r.2)

end Sys2Proof.Machine
end

