-- ==== Sys2Proof/Machine/Unknown.lean ====
section
/-! DEFINITION. Family UNK (43_unknown_opcode.md R170, R171): each of the 252 opcode bytes with no table entry is a
one-byte, one-cycle step that appends a diagnostic record and changes nothing else. Every row has a definition of its
own over the one shared operation `unknownStep`. -/

namespace Sys2Proof.Machine

/-- R121 and R170: save the address of the opcode byte, take the opcode fetch, emit the diagnostic record. -/
def unknownStep (opcode : Byte) (s : State) : Host.Outcome State Fault Refusal :=
  finish s do
    let s1 ← skipByte s
    pure (emitDiag opcode s.pc s1)

/-- R170 for the opcode byte 0x00. -/
def execUnk00 (s : State) : Host.Outcome State Fault Refusal := unknownStep 0x00 s

/-- R170 for the opcode byte 0x01. -/
def execUnk01 (s : State) : Host.Outcome State Fault Refusal := unknownStep 0x01 s

/-- R170 for the opcode byte 0x02. -/
def execUnk02 (s : State) : Host.Outcome State Fault Refusal := unknownStep 0x02 s

/-- R170 for the opcode byte 0x03. -/
def execUnk03 (s : State) : Host.Outcome State Fault Refusal := unknownStep 0x03 s

/-- R170 for the opcode byte 0x04. -/
def execUnk04 (s : State) : Host.Outcome State Fault Refusal := unknownStep 0x04 s

/-- R170 for the opcode byte 0x05. -/
def execUnk05 (s : State) : Host.Outcome State Fault Refusal := unknownStep 0x05 s

/-- R170 for the opcode byte 0x06. -/
def execUnk06 (s : State) : Host.Outcome State Fault Refusal := unknownStep 0x06 s

/-- R170 for the opcode byte 0x07. -/
def execUnk07 (s : State) : Host.Outcome State Fault Refusal := unknownStep 0x07 s

/-- R170 for the opcode byte 0x08. -/
def execUnk08 (s : State) : Host.Outcome State Fault Refusal := unknownStep 0x08 s

/-- R170 for the opcode byte 0x09. -/
def execUnk09 (s : State) : Host.Outcome State Fault Refusal := unknownStep 0x09 s

/-- R170 for the opcode byte 0x0A. -/
def execUnk0A (s : State) : Host.Outcome State Fault Refusal := unknownStep 0x0A s

/-- R170 for the opcode byte 0x0B. -/
def execUnk0B (s : State) : Host.Outcome State Fault Refusal := unknownStep 0x0B s

/-- R170 for the opcode byte 0x0C. -/
def execUnk0C (s : State) : Host.Outcome State Fault Refusal := unknownStep 0x0C s

/-- R170 for the opcode byte 0x0D. -/
def execUnk0D (s : State) : Host.Outcome State Fault Refusal := unknownStep 0x0D s

/-- R170 for the opcode byte 0x0E. -/
def execUnk0E (s : State) : Host.Outcome State Fault Refusal := unknownStep 0x0E s

/-- R170 for the opcode byte 0x0F. -/
def execUnk0F (s : State) : Host.Outcome State Fault Refusal := unknownStep 0x0F s

/-- R170 for the opcode byte 0x10. -/
def execUnk10 (s : State) : Host.Outcome State Fault Refusal := unknownStep 0x10 s

/-- R170 for the opcode byte 0x11. -/
def execUnk11 (s : State) : Host.Outcome State Fault Refusal := unknownStep 0x11 s

/-- R170 for the opcode byte 0x12. -/
def execUnk12 (s : State) : Host.Outcome State Fault Refusal := unknownStep 0x12 s

/-- R170 for the opcode byte 0x13. -/
def execUnk13 (s : State) : Host.Outcome State Fault Refusal := unknownStep 0x13 s

/-- R170 for the opcode byte 0x14. -/
def execUnk14 (s : State) : Host.Outcome State Fault Refusal := unknownStep 0x14 s

/-- R170 for the opcode byte 0x15. -/
def execUnk15 (s : State) : Host.Outcome State Fault Refusal := unknownStep 0x15 s

/-- R170 for the opcode byte 0x16. -/
def execUnk16 (s : State) : Host.Outcome State Fault Refusal := unknownStep 0x16 s

/-- R170 for the opcode byte 0x17. -/
def execUnk17 (s : State) : Host.Outcome State Fault Refusal := unknownStep 0x17 s

/-- R170 for the opcode byte 0x18. -/
def execUnk18 (s : State) : Host.Outcome State Fault Refusal := unknownStep 0x18 s

/-- R170 for the opcode byte 0x19. -/
def execUnk19 (s : State) : Host.Outcome State Fault Refusal := unknownStep 0x19 s

/-- R170 for the opcode byte 0x1A. -/
def execUnk1A (s : State) : Host.Outcome State Fault Refusal := unknownStep 0x1A s

/-- R170 for the opcode byte 0x1B. -/
def execUnk1B (s : State) : Host.Outcome State Fault Refusal := unknownStep 0x1B s

/-- R170 for the opcode byte 0x1C. -/
def execUnk1C (s : State) : Host.Outcome State Fault Refusal := unknownStep 0x1C s

/-- R170 for the opcode byte 0x1D. -/
def execUnk1D (s : State) : Host.Outcome State Fault Refusal := unknownStep 0x1D s

/-- R170 for the opcode byte 0x1E. -/
def execUnk1E (s : State) : Host.Outcome State Fault Refusal := unknownStep 0x1E s

/-- R170 for the opcode byte 0x1F. -/
def execUnk1F (s : State) : Host.Outcome State Fault Refusal := unknownStep 0x1F s

/-- R170 for the opcode byte 0x21. -/
def execUnk21 (s : State) : Host.Outcome State Fault Refusal := unknownStep 0x21 s

/-- R170 for the opcode byte 0x22. -/
def execUnk22 (s : State) : Host.Outcome State Fault Refusal := unknownStep 0x22 s

/-- R170 for the opcode byte 0x23. -/
def execUnk23 (s : State) : Host.Outcome State Fault Refusal := unknownStep 0x23 s

/-- R170 for the opcode byte 0x24. -/
def execUnk24 (s : State) : Host.Outcome State Fault Refusal := unknownStep 0x24 s

/-- R170 for the opcode byte 0x25. -/
def execUnk25 (s : State) : Host.Outcome State Fault Refusal := unknownStep 0x25 s

/-- R170 for the opcode byte 0x26. -/
def execUnk26 (s : State) : Host.Outcome State Fault Refusal := unknownStep 0x26 s

/-- R170 for the opcode byte 0x27. -/
def execUnk27 (s : State) : Host.Outcome State Fault Refusal := unknownStep 0x27 s

/-- R170 for the opcode byte 0x28. -/
def execUnk28 (s : State) : Host.Outcome State Fault Refusal := unknownStep 0x28 s

/-- R170 for the opcode byte 0x29. -/
def execUnk29 (s : State) : Host.Outcome State Fault Refusal := unknownStep 0x29 s

/-- R170 for the opcode byte 0x2A. -/
def execUnk2A (s : State) : Host.Outcome State Fault Refusal := unknownStep 0x2A s

/-- R170 for the opcode byte 0x2B. -/
def execUnk2B (s : State) : Host.Outcome State Fault Refusal := unknownStep 0x2B s

/-- R170 for the opcode byte 0x2C. -/
def execUnk2C (s : State) : Host.Outcome State Fault Refusal := unknownStep 0x2C s

/-- R170 for the opcode byte 0x2D. -/
def execUnk2D (s : State) : Host.Outcome State Fault Refusal := unknownStep 0x2D s

/-- R170 for the opcode byte 0x2E. -/
def execUnk2E (s : State) : Host.Outcome State Fault Refusal := unknownStep 0x2E s

/-- R170 for the opcode byte 0x2F. -/
def execUnk2F (s : State) : Host.Outcome State Fault Refusal := unknownStep 0x2F s

/-- R170 for the opcode byte 0x30. -/
def execUnk30 (s : State) : Host.Outcome State Fault Refusal := unknownStep 0x30 s

/-- R170 for the opcode byte 0x31. -/
def execUnk31 (s : State) : Host.Outcome State Fault Refusal := unknownStep 0x31 s

/-- R170 for the opcode byte 0x32. -/
def execUnk32 (s : State) : Host.Outcome State Fault Refusal := unknownStep 0x32 s

/-- R170 for the opcode byte 0x33. -/
def execUnk33 (s : State) : Host.Outcome State Fault Refusal := unknownStep 0x33 s

/-- R170 for the opcode byte 0x34. -/
def execUnk34 (s : State) : Host.Outcome State Fault Refusal := unknownStep 0x34 s

/-- R170 for the opcode byte 0x35. -/
def execUnk35 (s : State) : Host.Outcome State Fault Refusal := unknownStep 0x35 s

/-- R170 for the opcode byte 0x36. -/
def execUnk36 (s : State) : Host.Outcome State Fault Refusal := unknownStep 0x36 s

/-- R170 for the opcode byte 0x37. -/
def execUnk37 (s : State) : Host.Outcome State Fault Refusal := unknownStep 0x37 s

/-- R170 for the opcode byte 0x38. -/
def execUnk38 (s : State) : Host.Outcome State Fault Refusal := unknownStep 0x38 s

/-- R170 for the opcode byte 0x39. -/
def execUnk39 (s : State) : Host.Outcome State Fault Refusal := unknownStep 0x39 s

/-- R170 for the opcode byte 0x3A. -/
def execUnk3A (s : State) : Host.Outcome State Fault Refusal := unknownStep 0x3A s

/-- R170 for the opcode byte 0x3B. -/
def execUnk3B (s : State) : Host.Outcome State Fault Refusal := unknownStep 0x3B s

/-- R170 for the opcode byte 0x3C. -/
def execUnk3C (s : State) : Host.Outcome State Fault Refusal := unknownStep 0x3C s

/-- R170 for the opcode byte 0x3D. -/
def execUnk3D (s : State) : Host.Outcome State Fault Refusal := unknownStep 0x3D s

/-- R170 for the opcode byte 0x3E. -/
def execUnk3E (s : State) : Host.Outcome State Fault Refusal := unknownStep 0x3E s

/-- R170 for the opcode byte 0x3F. -/
def execUnk3F (s : State) : Host.Outcome State Fault Refusal := unknownStep 0x3F s

/-- R170 for the opcode byte 0x40. -/
def execUnk40 (s : State) : Host.Outcome State Fault Refusal := unknownStep 0x40 s

/-- R170 for the opcode byte 0x41. -/
def execUnk41 (s : State) : Host.Outcome State Fault Refusal := unknownStep 0x41 s

/-- R170 for the opcode byte 0x42. -/
def execUnk42 (s : State) : Host.Outcome State Fault Refusal := unknownStep 0x42 s

/-- R170 for the opcode byte 0x43. -/
def execUnk43 (s : State) : Host.Outcome State Fault Refusal := unknownStep 0x43 s

/-- R170 for the opcode byte 0x44. -/
def execUnk44 (s : State) : Host.Outcome State Fault Refusal := unknownStep 0x44 s

/-- R170 for the opcode byte 0x45. -/
def execUnk45 (s : State) : Host.Outcome State Fault Refusal := unknownStep 0x45 s

/-- R170 for the opcode byte 0x46. -/
def execUnk46 (s : State) : Host.Outcome State Fault Refusal := unknownStep 0x46 s

/-- R170 for the opcode byte 0x47. -/
def execUnk47 (s : State) : Host.Outcome State Fault Refusal := unknownStep 0x47 s

/-- R170 for the opcode byte 0x48. -/
def execUnk48 (s : State) : Host.Outcome State Fault Refusal := unknownStep 0x48 s

/-- R170 for the opcode byte 0x49. -/
def execUnk49 (s : State) : Host.Outcome State Fault Refusal := unknownStep 0x49 s

/-- R170 for the opcode byte 0x4A. -/
def execUnk4A (s : State) : Host.Outcome State Fault Refusal := unknownStep 0x4A s

/-- R170 for the opcode byte 0x4B. -/
def execUnk4B (s : State) : Host.Outcome State Fault Refusal := unknownStep 0x4B s

/-- R170 for the opcode byte 0x4C. -/
def execUnk4C (s : State) : Host.Outcome State Fault Refusal := unknownStep 0x4C s

/-- R170 for the opcode byte 0x4D. -/
def execUnk4D (s : State) : Host.Outcome State Fault Refusal := unknownStep 0x4D s

/-- R170 for the opcode byte 0x4E. -/
def execUnk4E (s : State) : Host.Outcome State Fault Refusal := unknownStep 0x4E s

/-- R170 for the opcode byte 0x4F. -/
def execUnk4F (s : State) : Host.Outcome State Fault Refusal := unknownStep 0x4F s

/-- R170 for the opcode byte 0x50. -/
def execUnk50 (s : State) : Host.Outcome State Fault Refusal := unknownStep 0x50 s

/-- R170 for the opcode byte 0x51. -/
def execUnk51 (s : State) : Host.Outcome State Fault Refusal := unknownStep 0x51 s

/-- R170 for the opcode byte 0x52. -/
def execUnk52 (s : State) : Host.Outcome State Fault Refusal := unknownStep 0x52 s

/-- R170 for the opcode byte 0x53. -/
def execUnk53 (s : State) : Host.Outcome State Fault Refusal := unknownStep 0x53 s

/-- R170 for the opcode byte 0x54. -/
def execUnk54 (s : State) : Host.Outcome State Fault Refusal := unknownStep 0x54 s

/-- R170 for the opcode byte 0x55. -/
def execUnk55 (s : State) : Host.Outcome State Fault Refusal := unknownStep 0x55 s

/-- R170 for the opcode byte 0x56. -/
def execUnk56 (s : State) : Host.Outcome State Fault Refusal := unknownStep 0x56 s

/-- R170 for the opcode byte 0x57. -/
def execUnk57 (s : State) : Host.Outcome State Fault Refusal := unknownStep 0x57 s

/-- R170 for the opcode byte 0x58. -/
def execUnk58 (s : State) : Host.Outcome State Fault Refusal := unknownStep 0x58 s

/-- R170 for the opcode byte 0x59. -/
def execUnk59 (s : State) : Host.Outcome State Fault Refusal := unknownStep 0x59 s

/-- R170 for the opcode byte 0x5A. -/
def execUnk5A (s : State) : Host.Outcome State Fault Refusal := unknownStep 0x5A s

/-- R170 for the opcode byte 0x5B. -/
def execUnk5B (s : State) : Host.Outcome State Fault Refusal := unknownStep 0x5B s

/-- R170 for the opcode byte 0x5C. -/
def execUnk5C (s : State) : Host.Outcome State Fault Refusal := unknownStep 0x5C s

/-- R170 for the opcode byte 0x5D. -/
def execUnk5D (s : State) : Host.Outcome State Fault Refusal := unknownStep 0x5D s

/-- R170 for the opcode byte 0x5E. -/
def execUnk5E (s : State) : Host.Outcome State Fault Refusal := unknownStep 0x5E s

/-- R170 for the opcode byte 0x5F. -/
def execUnk5F (s : State) : Host.Outcome State Fault Refusal := unknownStep 0x5F s

/-- R170 for the opcode byte 0x60. -/
def execUnk60 (s : State) : Host.Outcome State Fault Refusal := unknownStep 0x60 s

/-- R170 for the opcode byte 0x61. -/
def execUnk61 (s : State) : Host.Outcome State Fault Refusal := unknownStep 0x61 s

/-- R170 for the opcode byte 0x62. -/
def execUnk62 (s : State) : Host.Outcome State Fault Refusal := unknownStep 0x62 s

/-- R170 for the opcode byte 0x63. -/
def execUnk63 (s : State) : Host.Outcome State Fault Refusal := unknownStep 0x63 s

/-- R170 for the opcode byte 0x64. -/
def execUnk64 (s : State) : Host.Outcome State Fault Refusal := unknownStep 0x64 s

/-- R170 for the opcode byte 0x65. -/
def execUnk65 (s : State) : Host.Outcome State Fault Refusal := unknownStep 0x65 s

/-- R170 for the opcode byte 0x66. -/
def execUnk66 (s : State) : Host.Outcome State Fault Refusal := unknownStep 0x66 s

/-- R170 for the opcode byte 0x67. -/
def execUnk67 (s : State) : Host.Outcome State Fault Refusal := unknownStep 0x67 s

/-- R170 for the opcode byte 0x68. -/
def execUnk68 (s : State) : Host.Outcome State Fault Refusal := unknownStep 0x68 s

/-- R170 for the opcode byte 0x69. -/
def execUnk69 (s : State) : Host.Outcome State Fault Refusal := unknownStep 0x69 s

/-- R170 for the opcode byte 0x6A. -/
def execUnk6A (s : State) : Host.Outcome State Fault Refusal := unknownStep 0x6A s

/-- R170 for the opcode byte 0x6B. -/
def execUnk6B (s : State) : Host.Outcome State Fault Refusal := unknownStep 0x6B s

/-- R170 for the opcode byte 0x6C. -/
def execUnk6C (s : State) : Host.Outcome State Fault Refusal := unknownStep 0x6C s

/-- R170 for the opcode byte 0x6D. -/
def execUnk6D (s : State) : Host.Outcome State Fault Refusal := unknownStep 0x6D s

/-- R170 for the opcode byte 0x6E. -/
def execUnk6E (s : State) : Host.Outcome State Fault Refusal := unknownStep 0x6E s

/-- R170 for the opcode byte 0x6F. -/
def execUnk6F (s : State) : Host.Outcome State Fault Refusal := unknownStep 0x6F s

/-- R170 for the opcode byte 0x70. -/
def execUnk70 (s : State) : Host.Outcome State Fault Refusal := unknownStep 0x70 s

/-- R170 for the opcode byte 0x71. -/
def execUnk71 (s : State) : Host.Outcome State Fault Refusal := unknownStep 0x71 s

/-- R170 for the opcode byte 0x72. -/
def execUnk72 (s : State) : Host.Outcome State Fault Refusal := unknownStep 0x72 s

/-- R170 for the opcode byte 0x73. -/
def execUnk73 (s : State) : Host.Outcome State Fault Refusal := unknownStep 0x73 s

/-- R170 for the opcode byte 0x74. -/
def execUnk74 (s : State) : Host.Outcome State Fault Refusal := unknownStep 0x74 s

/-- R170 for the opcode byte 0x75. -/
def execUnk75 (s : State) : Host.Outcome State Fault Refusal := unknownStep 0x75 s

/-- R170 for the opcode byte 0x76. -/
def execUnk76 (s : State) : Host.Outcome State Fault Refusal := unknownStep 0x76 s

/-- R170 for the opcode byte 0x77. -/
def execUnk77 (s : State) : Host.Outcome State Fault Refusal := unknownStep 0x77 s

/-- R170 for the opcode byte 0x78. -/
def execUnk78 (s : State) : Host.Outcome State Fault Refusal := unknownStep 0x78 s

/-- R170 for the opcode byte 0x79. -/
def execUnk79 (s : State) : Host.Outcome State Fault Refusal := unknownStep 0x79 s

/-- R170 for the opcode byte 0x7A. -/
def execUnk7A (s : State) : Host.Outcome State Fault Refusal := unknownStep 0x7A s

/-- R170 for the opcode byte 0x7B. -/
def execUnk7B (s : State) : Host.Outcome State Fault Refusal := unknownStep 0x7B s

/-- R170 for the opcode byte 0x7C. -/
def execUnk7C (s : State) : Host.Outcome State Fault Refusal := unknownStep 0x7C s

/-- R170 for the opcode byte 0x7D. -/
def execUnk7D (s : State) : Host.Outcome State Fault Refusal := unknownStep 0x7D s

/-- R170 for the opcode byte 0x7E. -/
def execUnk7E (s : State) : Host.Outcome State Fault Refusal := unknownStep 0x7E s

/-- R170 for the opcode byte 0x7F. -/
def execUnk7F (s : State) : Host.Outcome State Fault Refusal := unknownStep 0x7F s

/-- R170 for the opcode byte 0x80. -/
def execUnk80 (s : State) : Host.Outcome State Fault Refusal := unknownStep 0x80 s

/-- R170 for the opcode byte 0x81. -/
def execUnk81 (s : State) : Host.Outcome State Fault Refusal := unknownStep 0x81 s

/-- R170 for the opcode byte 0x82. -/
def execUnk82 (s : State) : Host.Outcome State Fault Refusal := unknownStep 0x82 s

/-- R170 for the opcode byte 0x83. -/
def execUnk83 (s : State) : Host.Outcome State Fault Refusal := unknownStep 0x83 s

/-- R170 for the opcode byte 0x84. -/
def execUnk84 (s : State) : Host.Outcome State Fault Refusal := unknownStep 0x84 s

/-- R170 for the opcode byte 0x85. -/
def execUnk85 (s : State) : Host.Outcome State Fault Refusal := unknownStep 0x85 s

/-- R170 for the opcode byte 0x86. -/
def execUnk86 (s : State) : Host.Outcome State Fault Refusal := unknownStep 0x86 s

/-- R170 for the opcode byte 0x87. -/
def execUnk87 (s : State) : Host.Outcome State Fault Refusal := unknownStep 0x87 s

/-- R170 for the opcode byte 0x88. -/
def execUnk88 (s : State) : Host.Outcome State Fault Refusal := unknownStep 0x88 s

/-- R170 for the opcode byte 0x89. -/
def execUnk89 (s : State) : Host.Outcome State Fault Refusal := unknownStep 0x89 s

/-- R170 for the opcode byte 0x8A. -/
def execUnk8A (s : State) : Host.Outcome State Fault Refusal := unknownStep 0x8A s

/-- R170 for the opcode byte 0x8B. -/
def execUnk8B (s : State) : Host.Outcome State Fault Refusal := unknownStep 0x8B s

/-- R170 for the opcode byte 0x8C. -/
def execUnk8C (s : State) : Host.Outcome State Fault Refusal := unknownStep 0x8C s

/-- R170 for the opcode byte 0x8D. -/
def execUnk8D (s : State) : Host.Outcome State Fault Refusal := unknownStep 0x8D s

/-- R170 for the opcode byte 0x8E. -/
def execUnk8E (s : State) : Host.Outcome State Fault Refusal := unknownStep 0x8E s

/-- R170 for the opcode byte 0x8F. -/
def execUnk8F (s : State) : Host.Outcome State Fault Refusal := unknownStep 0x8F s

/-- R170 for the opcode byte 0x90. -/
def execUnk90 (s : State) : Host.Outcome State Fault Refusal := unknownStep 0x90 s

/-- R170 for the opcode byte 0x91. -/
def execUnk91 (s : State) : Host.Outcome State Fault Refusal := unknownStep 0x91 s

/-- R170 for the opcode byte 0x92. -/
def execUnk92 (s : State) : Host.Outcome State Fault Refusal := unknownStep 0x92 s

/-- R170 for the opcode byte 0x93. -/
def execUnk93 (s : State) : Host.Outcome State Fault Refusal := unknownStep 0x93 s

/-- R170 for the opcode byte 0x94. -/
def execUnk94 (s : State) : Host.Outcome State Fault Refusal := unknownStep 0x94 s

/-- R170 for the opcode byte 0x95. -/
def execUnk95 (s : State) : Host.Outcome State Fault Refusal := unknownStep 0x95 s

/-- R170 for the opcode byte 0x96. -/
def execUnk96 (s : State) : Host.Outcome State Fault Refusal := unknownStep 0x96 s

/-- R170 for the opcode byte 0x97. -/
def execUnk97 (s : State) : Host.Outcome State Fault Refusal := unknownStep 0x97 s

/-- R170 for the opcode byte 0x98. -/
def execUnk98 (s : State) : Host.Outcome State Fault Refusal := unknownStep 0x98 s

/-- R170 for the opcode byte 0x99. -/
def execUnk99 (s : State) : Host.Outcome State Fault Refusal := unknownStep 0x99 s

/-- R170 for the opcode byte 0x9A. -/
def execUnk9A (s : State) : Host.Outcome State Fault Refusal := unknownStep 0x9A s

/-- R170 for the opcode byte 0x9B. -/
def execUnk9B (s : State) : Host.Outcome State Fault Refusal := unknownStep 0x9B s

/-- R170 for the opcode byte 0x9C. -/
def execUnk9C (s : State) : Host.Outcome State Fault Refusal := unknownStep 0x9C s

/-- R170 for the opcode byte 0x9D. -/
def execUnk9D (s : State) : Host.Outcome State Fault Refusal := unknownStep 0x9D s

/-- R170 for the opcode byte 0x9E. -/
def execUnk9E (s : State) : Host.Outcome State Fault Refusal := unknownStep 0x9E s

/-- R170 for the opcode byte 0x9F. -/
def execUnk9F (s : State) : Host.Outcome State Fault Refusal := unknownStep 0x9F s

/-- R170 for the opcode byte 0xA0. -/
def execUnkA0 (s : State) : Host.Outcome State Fault Refusal := unknownStep 0xA0 s

/-- R170 for the opcode byte 0xA1. -/
def execUnkA1 (s : State) : Host.Outcome State Fault Refusal := unknownStep 0xA1 s

/-- R170 for the opcode byte 0xA2. -/
def execUnkA2 (s : State) : Host.Outcome State Fault Refusal := unknownStep 0xA2 s

/-- R170 for the opcode byte 0xA3. -/
def execUnkA3 (s : State) : Host.Outcome State Fault Refusal := unknownStep 0xA3 s

/-- R170 for the opcode byte 0xA4. -/
def execUnkA4 (s : State) : Host.Outcome State Fault Refusal := unknownStep 0xA4 s

/-- R170 for the opcode byte 0xA6. -/
def execUnkA6 (s : State) : Host.Outcome State Fault Refusal := unknownStep 0xA6 s

/-- R170 for the opcode byte 0xA7. -/
def execUnkA7 (s : State) : Host.Outcome State Fault Refusal := unknownStep 0xA7 s

/-- R170 for the opcode byte 0xA8. -/
def execUnkA8 (s : State) : Host.Outcome State Fault Refusal := unknownStep 0xA8 s

/-- R170 for the opcode byte 0xAA. -/
def execUnkAA (s : State) : Host.Outcome State Fault Refusal := unknownStep 0xAA s

/-- R170 for the opcode byte 0xAB. -/
def execUnkAB (s : State) : Host.Outcome State Fault Refusal := unknownStep 0xAB s

/-- R170 for the opcode byte 0xAC. -/
def execUnkAC (s : State) : Host.Outcome State Fault Refusal := unknownStep 0xAC s

/-- R170 for the opcode byte 0xAD. -/
def execUnkAD (s : State) : Host.Outcome State Fault Refusal := unknownStep 0xAD s

/-- R170 for the opcode byte 0xAE. -/
def execUnkAE (s : State) : Host.Outcome State Fault Refusal := unknownStep 0xAE s

/-- R170 for the opcode byte 0xAF. -/
def execUnkAF (s : State) : Host.Outcome State Fault Refusal := unknownStep 0xAF s

/-- R170 for the opcode byte 0xB0. -/
def execUnkB0 (s : State) : Host.Outcome State Fault Refusal := unknownStep 0xB0 s

/-- R170 for the opcode byte 0xB1. -/
def execUnkB1 (s : State) : Host.Outcome State Fault Refusal := unknownStep 0xB1 s

/-- R170 for the opcode byte 0xB2. -/
def execUnkB2 (s : State) : Host.Outcome State Fault Refusal := unknownStep 0xB2 s

/-- R170 for the opcode byte 0xB3. -/
def execUnkB3 (s : State) : Host.Outcome State Fault Refusal := unknownStep 0xB3 s

/-- R170 for the opcode byte 0xB4. -/
def execUnkB4 (s : State) : Host.Outcome State Fault Refusal := unknownStep 0xB4 s

/-- R170 for the opcode byte 0xB6. -/
def execUnkB6 (s : State) : Host.Outcome State Fault Refusal := unknownStep 0xB6 s

/-- R170 for the opcode byte 0xB7. -/
def execUnkB7 (s : State) : Host.Outcome State Fault Refusal := unknownStep 0xB7 s

/-- R170 for the opcode byte 0xB8. -/
def execUnkB8 (s : State) : Host.Outcome State Fault Refusal := unknownStep 0xB8 s

/-- R170 for the opcode byte 0xB9. -/
def execUnkB9 (s : State) : Host.Outcome State Fault Refusal := unknownStep 0xB9 s

/-- R170 for the opcode byte 0xBA. -/
def execUnkBA (s : State) : Host.Outcome State Fault Refusal := unknownStep 0xBA s

/-- R170 for the opcode byte 0xBB. -/
def execUnkBB (s : State) : Host.Outcome State Fault Refusal := unknownStep 0xBB s

/-- R170 for the opcode byte 0xBC. -/
def execUnkBC (s : State) : Host.Outcome State Fault Refusal := unknownStep 0xBC s

/-- R170 for the opcode byte 0xBD. -/
def execUnkBD (s : State) : Host.Outcome State Fault Refusal := unknownStep 0xBD s

/-- R170 for the opcode byte 0xBE. -/
def execUnkBE (s : State) : Host.Outcome State Fault Refusal := unknownStep 0xBE s

/-- R170 for the opcode byte 0xBF. -/
def execUnkBF (s : State) : Host.Outcome State Fault Refusal := unknownStep 0xBF s

/-- R170 for the opcode byte 0xC0. -/
def execUnkC0 (s : State) : Host.Outcome State Fault Refusal := unknownStep 0xC0 s

/-- R170 for the opcode byte 0xC1. -/
def execUnkC1 (s : State) : Host.Outcome State Fault Refusal := unknownStep 0xC1 s

/-- R170 for the opcode byte 0xC2. -/
def execUnkC2 (s : State) : Host.Outcome State Fault Refusal := unknownStep 0xC2 s

/-- R170 for the opcode byte 0xC3. -/
def execUnkC3 (s : State) : Host.Outcome State Fault Refusal := unknownStep 0xC3 s

/-- R170 for the opcode byte 0xC4. -/
def execUnkC4 (s : State) : Host.Outcome State Fault Refusal := unknownStep 0xC4 s

/-- R170 for the opcode byte 0xC5. -/
def execUnkC5 (s : State) : Host.Outcome State Fault Refusal := unknownStep 0xC5 s

/-- R170 for the opcode byte 0xC6. -/
def execUnkC6 (s : State) : Host.Outcome State Fault Refusal := unknownStep 0xC6 s

/-- R170 for the opcode byte 0xC7. -/
def execUnkC7 (s : State) : Host.Outcome State Fault Refusal := unknownStep 0xC7 s

/-- R170 for the opcode byte 0xC8. -/
def execUnkC8 (s : State) : Host.Outcome State Fault Refusal := unknownStep 0xC8 s

/-- R170 for the opcode byte 0xC9. -/
def execUnkC9 (s : State) : Host.Outcome State Fault Refusal := unknownStep 0xC9 s

/-- R170 for the opcode byte 0xCA. -/
def execUnkCA (s : State) : Host.Outcome State Fault Refusal := unknownStep 0xCA s

/-- R170 for the opcode byte 0xCB. -/
def execUnkCB (s : State) : Host.Outcome State Fault Refusal := unknownStep 0xCB s

/-- R170 for the opcode byte 0xCC. -/
def execUnkCC (s : State) : Host.Outcome State Fault Refusal := unknownStep 0xCC s

/-- R170 for the opcode byte 0xCD. -/
def execUnkCD (s : State) : Host.Outcome State Fault Refusal := unknownStep 0xCD s

/-- R170 for the opcode byte 0xCE. -/
def execUnkCE (s : State) : Host.Outcome State Fault Refusal := unknownStep 0xCE s

/-- R170 for the opcode byte 0xCF. -/
def execUnkCF (s : State) : Host.Outcome State Fault Refusal := unknownStep 0xCF s

/-- R170 for the opcode byte 0xD0. -/
def execUnkD0 (s : State) : Host.Outcome State Fault Refusal := unknownStep 0xD0 s

/-- R170 for the opcode byte 0xD1. -/
def execUnkD1 (s : State) : Host.Outcome State Fault Refusal := unknownStep 0xD1 s

/-- R170 for the opcode byte 0xD2. -/
def execUnkD2 (s : State) : Host.Outcome State Fault Refusal := unknownStep 0xD2 s

/-- R170 for the opcode byte 0xD3. -/
def execUnkD3 (s : State) : Host.Outcome State Fault Refusal := unknownStep 0xD3 s

/-- R170 for the opcode byte 0xD4. -/
def execUnkD4 (s : State) : Host.Outcome State Fault Refusal := unknownStep 0xD4 s

/-- R170 for the opcode byte 0xD5. -/
def execUnkD5 (s : State) : Host.Outcome State Fault Refusal := unknownStep 0xD5 s

/-- R170 for the opcode byte 0xD6. -/
def execUnkD6 (s : State) : Host.Outcome State Fault Refusal := unknownStep 0xD6 s

/-- R170 for the opcode byte 0xD7. -/
def execUnkD7 (s : State) : Host.Outcome State Fault Refusal := unknownStep 0xD7 s

/-- R170 for the opcode byte 0xD8. -/
def execUnkD8 (s : State) : Host.Outcome State Fault Refusal := unknownStep 0xD8 s

/-- R170 for the opcode byte 0xD9. -/
def execUnkD9 (s : State) : Host.Outcome State Fault Refusal := unknownStep 0xD9 s

/-- R170 for the opcode byte 0xDA. -/
def execUnkDA (s : State) : Host.Outcome State Fault Refusal := unknownStep 0xDA s

/-- R170 for the opcode byte 0xDB. -/
def execUnkDB (s : State) : Host.Outcome State Fault Refusal := unknownStep 0xDB s

/-- R170 for the opcode byte 0xDC. -/
def execUnkDC (s : State) : Host.Outcome State Fault Refusal := unknownStep 0xDC s

/-- R170 for the opcode byte 0xDD. -/
def execUnkDD (s : State) : Host.Outcome State Fault Refusal := unknownStep 0xDD s

/-- R170 for the opcode byte 0xDE. -/
def execUnkDE (s : State) : Host.Outcome State Fault Refusal := unknownStep 0xDE s

/-- R170 for the opcode byte 0xDF. -/
def execUnkDF (s : State) : Host.Outcome State Fault Refusal := unknownStep 0xDF s

/-- R170 for the opcode byte 0xE0. -/
def execUnkE0 (s : State) : Host.Outcome State Fault Refusal := unknownStep 0xE0 s

/-- R170 for the opcode byte 0xE1. -/
def execUnkE1 (s : State) : Host.Outcome State Fault Refusal := unknownStep 0xE1 s

/-- R170 for the opcode byte 0xE2. -/
def execUnkE2 (s : State) : Host.Outcome State Fault Refusal := unknownStep 0xE2 s

/-- R170 for the opcode byte 0xE3. -/
def execUnkE3 (s : State) : Host.Outcome State Fault Refusal := unknownStep 0xE3 s

/-- R170 for the opcode byte 0xE4. -/
def execUnkE4 (s : State) : Host.Outcome State Fault Refusal := unknownStep 0xE4 s

/-- R170 for the opcode byte 0xE5. -/
def execUnkE5 (s : State) : Host.Outcome State Fault Refusal := unknownStep 0xE5 s

/-- R170 for the opcode byte 0xE6. -/
def execUnkE6 (s : State) : Host.Outcome State Fault Refusal := unknownStep 0xE6 s

/-- R170 for the opcode byte 0xE7. -/
def execUnkE7 (s : State) : Host.Outcome State Fault Refusal := unknownStep 0xE7 s

/-- R170 for the opcode byte 0xE8. -/
def execUnkE8 (s : State) : Host.Outcome State Fault Refusal := unknownStep 0xE8 s

/-- R170 for the opcode byte 0xE9. -/
def execUnkE9 (s : State) : Host.Outcome State Fault Refusal := unknownStep 0xE9 s

/-- R170 for the opcode byte 0xEA. -/
def execUnkEA (s : State) : Host.Outcome State Fault Refusal := unknownStep 0xEA s

/-- R170 for the opcode byte 0xEB. -/
def execUnkEB (s : State) : Host.Outcome State Fault Refusal := unknownStep 0xEB s

/-- R170 for the opcode byte 0xEC. -/
def execUnkEC (s : State) : Host.Outcome State Fault Refusal := unknownStep 0xEC s

/-- R170 for the opcode byte 0xED. -/
def execUnkED (s : State) : Host.Outcome State Fault Refusal := unknownStep 0xED s

/-- R170 for the opcode byte 0xEE. -/
def execUnkEE (s : State) : Host.Outcome State Fault Refusal := unknownStep 0xEE s

/-- R170 for the opcode byte 0xEF. -/
def execUnkEF (s : State) : Host.Outcome State Fault Refusal := unknownStep 0xEF s

/-- R170 for the opcode byte 0xF0. -/
def execUnkF0 (s : State) : Host.Outcome State Fault Refusal := unknownStep 0xF0 s

/-- R170 for the opcode byte 0xF1. -/
def execUnkF1 (s : State) : Host.Outcome State Fault Refusal := unknownStep 0xF1 s

/-- R170 for the opcode byte 0xF2. -/
def execUnkF2 (s : State) : Host.Outcome State Fault Refusal := unknownStep 0xF2 s

/-- R170 for the opcode byte 0xF3. -/
def execUnkF3 (s : State) : Host.Outcome State Fault Refusal := unknownStep 0xF3 s

/-- R170 for the opcode byte 0xF4. -/
def execUnkF4 (s : State) : Host.Outcome State Fault Refusal := unknownStep 0xF4 s

/-- R170 for the opcode byte 0xF5. -/
def execUnkF5 (s : State) : Host.Outcome State Fault Refusal := unknownStep 0xF5 s

/-- R170 for the opcode byte 0xF6. -/
def execUnkF6 (s : State) : Host.Outcome State Fault Refusal := unknownStep 0xF6 s

/-- R170 for the opcode byte 0xF7. -/
def execUnkF7 (s : State) : Host.Outcome State Fault Refusal := unknownStep 0xF7 s

/-- R170 for the opcode byte 0xF8. -/
def execUnkF8 (s : State) : Host.Outcome State Fault Refusal := unknownStep 0xF8 s

/-- R170 for the opcode byte 0xF9. -/
def execUnkF9 (s : State) : Host.Outcome State Fault Refusal := unknownStep 0xF9 s

/-- R170 for the opcode byte 0xFA. -/
def execUnkFA (s : State) : Host.Outcome State Fault Refusal := unknownStep 0xFA s

/-- R170 for the opcode byte 0xFB. -/
def execUnkFB (s : State) : Host.Outcome State Fault Refusal := unknownStep 0xFB s

/-- R170 for the opcode byte 0xFC. -/
def execUnkFC (s : State) : Host.Outcome State Fault Refusal := unknownStep 0xFC s

/-- R170 for the opcode byte 0xFD. -/
def execUnkFD (s : State) : Host.Outcome State Fault Refusal := unknownStep 0xFD s

/-- R170 for the opcode byte 0xFE. -/
def execUnkFE (s : State) : Host.Outcome State Fault Refusal := unknownStep 0xFE s

/-- R170 for the opcode byte 0xFF. -/
def execUnkFF (s : State) : Host.Outcome State Fault Refusal := unknownStep 0xFF s

end Sys2Proof.Machine
end

