-- ==== Sys2Proof/Machine/Dispatch.lean ====
section
/-! DEFINITION. The dispatch of 40_engine_loop_and_primitives.md R121: one arm per row of the opcode table. -/

namespace Sys2Proof.Machine

def exec (i : Instr) (s : State) : Host.Outcome State Fault Refusal :=
  match i with
  | .ldaImm imm8 => Sys2Proof.Machine.execLdaImm imm8 s
  | .ldaZp zp8 => Sys2Proof.Machine.execLdaZp zp8 s
  | .ldaZpx zp8 => Sys2Proof.Machine.execLdaZpx zp8 s
  | .jsrAbs target => Sys2Proof.Machine.execJsrAbs target s
  | .unk00 => Sys2Proof.Machine.execUnk00 s
  | .unk01 => Sys2Proof.Machine.execUnk01 s
  | .unk02 => Sys2Proof.Machine.execUnk02 s
  | .unk03 => Sys2Proof.Machine.execUnk03 s
  | .unk04 => Sys2Proof.Machine.execUnk04 s
  | .unk05 => Sys2Proof.Machine.execUnk05 s
  | .unk06 => Sys2Proof.Machine.execUnk06 s
  | .unk07 => Sys2Proof.Machine.execUnk07 s
  | .unk08 => Sys2Proof.Machine.execUnk08 s
  | .unk09 => Sys2Proof.Machine.execUnk09 s
  | .unk0A => Sys2Proof.Machine.execUnk0A s
  | .unk0B => Sys2Proof.Machine.execUnk0B s
  | .unk0C => Sys2Proof.Machine.execUnk0C s
  | .unk0D => Sys2Proof.Machine.execUnk0D s
  | .unk0E => Sys2Proof.Machine.execUnk0E s
  | .unk0F => Sys2Proof.Machine.execUnk0F s
  | .unk10 => Sys2Proof.Machine.execUnk10 s
  | .unk11 => Sys2Proof.Machine.execUnk11 s
  | .unk12 => Sys2Proof.Machine.execUnk12 s
  | .unk13 => Sys2Proof.Machine.execUnk13 s
  | .unk14 => Sys2Proof.Machine.execUnk14 s
  | .unk15 => Sys2Proof.Machine.execUnk15 s
  | .unk16 => Sys2Proof.Machine.execUnk16 s
  | .unk17 => Sys2Proof.Machine.execUnk17 s
  | .unk18 => Sys2Proof.Machine.execUnk18 s
  | .unk19 => Sys2Proof.Machine.execUnk19 s
  | .unk1A => Sys2Proof.Machine.execUnk1A s
  | .unk1B => Sys2Proof.Machine.execUnk1B s
  | .unk1C => Sys2Proof.Machine.execUnk1C s
  | .unk1D => Sys2Proof.Machine.execUnk1D s
  | .unk1E => Sys2Proof.Machine.execUnk1E s
  | .unk1F => Sys2Proof.Machine.execUnk1F s
  | .unk21 => Sys2Proof.Machine.execUnk21 s
  | .unk22 => Sys2Proof.Machine.execUnk22 s
  | .unk23 => Sys2Proof.Machine.execUnk23 s
  | .unk24 => Sys2Proof.Machine.execUnk24 s
  | .unk25 => Sys2Proof.Machine.execUnk25 s
  | .unk26 => Sys2Proof.Machine.execUnk26 s
  | .unk27 => Sys2Proof.Machine.execUnk27 s
  | .unk28 => Sys2Proof.Machine.execUnk28 s
  | .unk29 => Sys2Proof.Machine.execUnk29 s
  | .unk2A => Sys2Proof.Machine.execUnk2A s
  | .unk2B => Sys2Proof.Machine.execUnk2B s
  | .unk2C => Sys2Proof.Machine.execUnk2C s
  | .unk2D => Sys2Proof.Machine.execUnk2D s
  | .unk2E => Sys2Proof.Machine.execUnk2E s
  | .unk2F => Sys2Proof.Machine.execUnk2F s
  | .unk30 => Sys2Proof.Machine.execUnk30 s
  | .unk31 => Sys2Proof.Machine.execUnk31 s
  | .unk32 => Sys2Proof.Machine.execUnk32 s
  | .unk33 => Sys2Proof.Machine.execUnk33 s
  | .unk34 => Sys2Proof.Machine.execUnk34 s
  | .unk35 => Sys2Proof.Machine.execUnk35 s
  | .unk36 => Sys2Proof.Machine.execUnk36 s
  | .unk37 => Sys2Proof.Machine.execUnk37 s
  | .unk38 => Sys2Proof.Machine.execUnk38 s
  | .unk39 => Sys2Proof.Machine.execUnk39 s
  | .unk3A => Sys2Proof.Machine.execUnk3A s
  | .unk3B => Sys2Proof.Machine.execUnk3B s
  | .unk3C => Sys2Proof.Machine.execUnk3C s
  | .unk3D => Sys2Proof.Machine.execUnk3D s
  | .unk3E => Sys2Proof.Machine.execUnk3E s
  | .unk3F => Sys2Proof.Machine.execUnk3F s
  | .unk40 => Sys2Proof.Machine.execUnk40 s
  | .unk41 => Sys2Proof.Machine.execUnk41 s
  | .unk42 => Sys2Proof.Machine.execUnk42 s
  | .unk43 => Sys2Proof.Machine.execUnk43 s
  | .unk44 => Sys2Proof.Machine.execUnk44 s
  | .unk45 => Sys2Proof.Machine.execUnk45 s
  | .unk46 => Sys2Proof.Machine.execUnk46 s
  | .unk47 => Sys2Proof.Machine.execUnk47 s
  | .unk48 => Sys2Proof.Machine.execUnk48 s
  | .unk49 => Sys2Proof.Machine.execUnk49 s
  | .unk4A => Sys2Proof.Machine.execUnk4A s
  | .unk4B => Sys2Proof.Machine.execUnk4B s
  | .unk4C => Sys2Proof.Machine.execUnk4C s
  | .unk4D => Sys2Proof.Machine.execUnk4D s
  | .unk4E => Sys2Proof.Machine.execUnk4E s
  | .unk4F => Sys2Proof.Machine.execUnk4F s
  | .unk50 => Sys2Proof.Machine.execUnk50 s
  | .unk51 => Sys2Proof.Machine.execUnk51 s
  | .unk52 => Sys2Proof.Machine.execUnk52 s
  | .unk53 => Sys2Proof.Machine.execUnk53 s
  | .unk54 => Sys2Proof.Machine.execUnk54 s
  | .unk55 => Sys2Proof.Machine.execUnk55 s
  | .unk56 => Sys2Proof.Machine.execUnk56 s
  | .unk57 => Sys2Proof.Machine.execUnk57 s
  | .unk58 => Sys2Proof.Machine.execUnk58 s
  | .unk59 => Sys2Proof.Machine.execUnk59 s
  | .unk5A => Sys2Proof.Machine.execUnk5A s
  | .unk5B => Sys2Proof.Machine.execUnk5B s
  | .unk5C => Sys2Proof.Machine.execUnk5C s
  | .unk5D => Sys2Proof.Machine.execUnk5D s
  | .unk5E => Sys2Proof.Machine.execUnk5E s
  | .unk5F => Sys2Proof.Machine.execUnk5F s
  | .unk60 => Sys2Proof.Machine.execUnk60 s
  | .unk61 => Sys2Proof.Machine.execUnk61 s
  | .unk62 => Sys2Proof.Machine.execUnk62 s
  | .unk63 => Sys2Proof.Machine.execUnk63 s
  | .unk64 => Sys2Proof.Machine.execUnk64 s
  | .unk65 => Sys2Proof.Machine.execUnk65 s
  | .unk66 => Sys2Proof.Machine.execUnk66 s
  | .unk67 => Sys2Proof.Machine.execUnk67 s
  | .unk68 => Sys2Proof.Machine.execUnk68 s
  | .unk69 => Sys2Proof.Machine.execUnk69 s
  | .unk6A => Sys2Proof.Machine.execUnk6A s
  | .unk6B => Sys2Proof.Machine.execUnk6B s
  | .unk6C => Sys2Proof.Machine.execUnk6C s
  | .unk6D => Sys2Proof.Machine.execUnk6D s
  | .unk6E => Sys2Proof.Machine.execUnk6E s
  | .unk6F => Sys2Proof.Machine.execUnk6F s
  | .unk70 => Sys2Proof.Machine.execUnk70 s
  | .unk71 => Sys2Proof.Machine.execUnk71 s
  | .unk72 => Sys2Proof.Machine.execUnk72 s
  | .unk73 => Sys2Proof.Machine.execUnk73 s
  | .unk74 => Sys2Proof.Machine.execUnk74 s
  | .unk75 => Sys2Proof.Machine.execUnk75 s
  | .unk76 => Sys2Proof.Machine.execUnk76 s
  | .unk77 => Sys2Proof.Machine.execUnk77 s
  | .unk78 => Sys2Proof.Machine.execUnk78 s
  | .unk79 => Sys2Proof.Machine.execUnk79 s
  | .unk7A => Sys2Proof.Machine.execUnk7A s
  | .unk7B => Sys2Proof.Machine.execUnk7B s
  | .unk7C => Sys2Proof.Machine.execUnk7C s
  | .unk7D => Sys2Proof.Machine.execUnk7D s
  | .unk7E => Sys2Proof.Machine.execUnk7E s
  | .unk7F => Sys2Proof.Machine.execUnk7F s
  | .unk80 => Sys2Proof.Machine.execUnk80 s
  | .unk81 => Sys2Proof.Machine.execUnk81 s
  | .unk82 => Sys2Proof.Machine.execUnk82 s
  | .unk83 => Sys2Proof.Machine.execUnk83 s
  | .unk84 => Sys2Proof.Machine.execUnk84 s
  | .unk85 => Sys2Proof.Machine.execUnk85 s
  | .unk86 => Sys2Proof.Machine.execUnk86 s
  | .unk87 => Sys2Proof.Machine.execUnk87 s
  | .unk88 => Sys2Proof.Machine.execUnk88 s
  | .unk89 => Sys2Proof.Machine.execUnk89 s
  | .unk8A => Sys2Proof.Machine.execUnk8A s
  | .unk8B => Sys2Proof.Machine.execUnk8B s
  | .unk8C => Sys2Proof.Machine.execUnk8C s
  | .unk8D => Sys2Proof.Machine.execUnk8D s
  | .unk8E => Sys2Proof.Machine.execUnk8E s
  | .unk8F => Sys2Proof.Machine.execUnk8F s
  | .unk90 => Sys2Proof.Machine.execUnk90 s
  | .unk91 => Sys2Proof.Machine.execUnk91 s
  | .unk92 => Sys2Proof.Machine.execUnk92 s
  | .unk93 => Sys2Proof.Machine.execUnk93 s
  | .unk94 => Sys2Proof.Machine.execUnk94 s
  | .unk95 => Sys2Proof.Machine.execUnk95 s
  | .unk96 => Sys2Proof.Machine.execUnk96 s
  | .unk97 => Sys2Proof.Machine.execUnk97 s
  | .unk98 => Sys2Proof.Machine.execUnk98 s
  | .unk99 => Sys2Proof.Machine.execUnk99 s
  | .unk9A => Sys2Proof.Machine.execUnk9A s
  | .unk9B => Sys2Proof.Machine.execUnk9B s
  | .unk9C => Sys2Proof.Machine.execUnk9C s
  | .unk9D => Sys2Proof.Machine.execUnk9D s
  | .unk9E => Sys2Proof.Machine.execUnk9E s
  | .unk9F => Sys2Proof.Machine.execUnk9F s
  | .unkA0 => Sys2Proof.Machine.execUnkA0 s
  | .unkA1 => Sys2Proof.Machine.execUnkA1 s
  | .unkA2 => Sys2Proof.Machine.execUnkA2 s
  | .unkA3 => Sys2Proof.Machine.execUnkA3 s
  | .unkA4 => Sys2Proof.Machine.execUnkA4 s
  | .unkA6 => Sys2Proof.Machine.execUnkA6 s
  | .unkA7 => Sys2Proof.Machine.execUnkA7 s
  | .unkA8 => Sys2Proof.Machine.execUnkA8 s
  | .unkAA => Sys2Proof.Machine.execUnkAA s
  | .unkAB => Sys2Proof.Machine.execUnkAB s
  | .unkAC => Sys2Proof.Machine.execUnkAC s
  | .unkAD => Sys2Proof.Machine.execUnkAD s
  | .unkAE => Sys2Proof.Machine.execUnkAE s
  | .unkAF => Sys2Proof.Machine.execUnkAF s
  | .unkB0 => Sys2Proof.Machine.execUnkB0 s
  | .unkB1 => Sys2Proof.Machine.execUnkB1 s
  | .unkB2 => Sys2Proof.Machine.execUnkB2 s
  | .unkB3 => Sys2Proof.Machine.execUnkB3 s
  | .unkB4 => Sys2Proof.Machine.execUnkB4 s
  | .unkB6 => Sys2Proof.Machine.execUnkB6 s
  | .unkB7 => Sys2Proof.Machine.execUnkB7 s
  | .unkB8 => Sys2Proof.Machine.execUnkB8 s
  | .unkB9 => Sys2Proof.Machine.execUnkB9 s
  | .unkBA => Sys2Proof.Machine.execUnkBA s
  | .unkBB => Sys2Proof.Machine.execUnkBB s
  | .unkBC => Sys2Proof.Machine.execUnkBC s
  | .unkBD => Sys2Proof.Machine.execUnkBD s
  | .unkBE => Sys2Proof.Machine.execUnkBE s
  | .unkBF => Sys2Proof.Machine.execUnkBF s
  | .unkC0 => Sys2Proof.Machine.execUnkC0 s
  | .unkC1 => Sys2Proof.Machine.execUnkC1 s
  | .unkC2 => Sys2Proof.Machine.execUnkC2 s
  | .unkC3 => Sys2Proof.Machine.execUnkC3 s
  | .unkC4 => Sys2Proof.Machine.execUnkC4 s
  | .unkC5 => Sys2Proof.Machine.execUnkC5 s
  | .unkC6 => Sys2Proof.Machine.execUnkC6 s
  | .unkC7 => Sys2Proof.Machine.execUnkC7 s
  | .unkC8 => Sys2Proof.Machine.execUnkC8 s
  | .unkC9 => Sys2Proof.Machine.execUnkC9 s
  | .unkCA => Sys2Proof.Machine.execUnkCA s
  | .unkCB => Sys2Proof.Machine.execUnkCB s
  | .unkCC => Sys2Proof.Machine.execUnkCC s
  | .unkCD => Sys2Proof.Machine.execUnkCD s
  | .unkCE => Sys2Proof.Machine.execUnkCE s
  | .unkCF => Sys2Proof.Machine.execUnkCF s
  | .unkD0 => Sys2Proof.Machine.execUnkD0 s
  | .unkD1 => Sys2Proof.Machine.execUnkD1 s
  | .unkD2 => Sys2Proof.Machine.execUnkD2 s
  | .unkD3 => Sys2Proof.Machine.execUnkD3 s
  | .unkD4 => Sys2Proof.Machine.execUnkD4 s
  | .unkD5 => Sys2Proof.Machine.execUnkD5 s
  | .unkD6 => Sys2Proof.Machine.execUnkD6 s
  | .unkD7 => Sys2Proof.Machine.execUnkD7 s
  | .unkD8 => Sys2Proof.Machine.execUnkD8 s
  | .unkD9 => Sys2Proof.Machine.execUnkD9 s
  | .unkDA => Sys2Proof.Machine.execUnkDA s
  | .unkDB => Sys2Proof.Machine.execUnkDB s
  | .unkDC => Sys2Proof.Machine.execUnkDC s
  | .unkDD => Sys2Proof.Machine.execUnkDD s
  | .unkDE => Sys2Proof.Machine.execUnkDE s
  | .unkDF => Sys2Proof.Machine.execUnkDF s
  | .unkE0 => Sys2Proof.Machine.execUnkE0 s
  | .unkE1 => Sys2Proof.Machine.execUnkE1 s
  | .unkE2 => Sys2Proof.Machine.execUnkE2 s
  | .unkE3 => Sys2Proof.Machine.execUnkE3 s
  | .unkE4 => Sys2Proof.Machine.execUnkE4 s
  | .unkE5 => Sys2Proof.Machine.execUnkE5 s
  | .unkE6 => Sys2Proof.Machine.execUnkE6 s
  | .unkE7 => Sys2Proof.Machine.execUnkE7 s
  | .unkE8 => Sys2Proof.Machine.execUnkE8 s
  | .unkE9 => Sys2Proof.Machine.execUnkE9 s
  | .unkEA => Sys2Proof.Machine.execUnkEA s
  | .unkEB => Sys2Proof.Machine.execUnkEB s
  | .unkEC => Sys2Proof.Machine.execUnkEC s
  | .unkED => Sys2Proof.Machine.execUnkED s
  | .unkEE => Sys2Proof.Machine.execUnkEE s
  | .unkEF => Sys2Proof.Machine.execUnkEF s
  | .unkF0 => Sys2Proof.Machine.execUnkF0 s
  | .unkF1 => Sys2Proof.Machine.execUnkF1 s
  | .unkF2 => Sys2Proof.Machine.execUnkF2 s
  | .unkF3 => Sys2Proof.Machine.execUnkF3 s
  | .unkF4 => Sys2Proof.Machine.execUnkF4 s
  | .unkF5 => Sys2Proof.Machine.execUnkF5 s
  | .unkF6 => Sys2Proof.Machine.execUnkF6 s
  | .unkF7 => Sys2Proof.Machine.execUnkF7 s
  | .unkF8 => Sys2Proof.Machine.execUnkF8 s
  | .unkF9 => Sys2Proof.Machine.execUnkF9 s
  | .unkFA => Sys2Proof.Machine.execUnkFA s
  | .unkFB => Sys2Proof.Machine.execUnkFB s
  | .unkFC => Sys2Proof.Machine.execUnkFC s
  | .unkFD => Sys2Proof.Machine.execUnkFD s
  | .unkFE => Sys2Proof.Machine.execUnkFE s
  | .unkFF => Sys2Proof.Machine.execUnkFF s

end Sys2Proof.Machine
end

