-- ==== Sys2Proof/Machine/HostOps.lean ====
section
/-! DEFINITION. The host's transactions (00_scope.md R9, R13), one definition each, with the STATUS each requires. A
transaction whose STATUS requirement fails is refused and changes nothing but the reply. None of them is an instruction:
they act between runs (20_memory.md R76). -/

namespace Sys2Proof.Machine

/-- Every element of R20, as `inspect` reads it (R13, R43). -/
def snapshotOf (s : State) : Snapshot where
  a := s.a
  x := s.x
  y := s.y
  pc := s.pc
  sp := s.sp
  c := s.c
  z := s.z
  i := s.i
  d := s.d
  b := s.b
  v := s.v
  n := s.n
  cyc := s.cyc
  mem := s.mem
  status := s.status
  diag := s.diag

/-- `Reset` (R210, R212): from any STATUS but `running` (R13) it gives the reset state; it cannot fail. CYC is not
defined by it (R40, U3): a free value. The host's own lists are not part of the machine and stay. -/
def hostReset (s : State) : State :=
  match s.status with
  | .running => reply .refused s
  | .notReset | .idle | .faulted _ =>
    reply .done { State.reset with
      cyc := Config.freeInt s.free
      free := s.free + 1
      pending := s.pending
      replies := s.replies }

/-- `initialise()` (R61): every cell 0x00, while the engine is idle. -/
def hostInitialise (s : State) : State :=
  match s.status with
  | .idle => reply .done { s with mem := [] }
  | .notReset | .running | .faulted _ => reply .refused s

/-- `read(address)` (R62), while the engine is idle or faulted (R13, R183). -/
def hostRead (addr : Addr) (s : State) : State :=
  match s.status with
  | .idle | .faulted _ =>
    match memRead1 s.mem addr with
    | .ok b => reply (.byte b) s
    | .error (.outOfRange e) => reply (.outOfRange e) s
  | .notReset | .running => reply .refused s

/-- `write(address, byte)` (R63), while the engine is idle (R13). A failing access leaves MEM and STATUS unchanged. -/
def hostWrite (addr : Addr) (byte : Byte) (s : State) : State :=
  match s.status with
  | .idle =>
    match memWrite1 s.mem addr byte with
    | .ok m => reply .done { s with mem := m }
    | .error (.outOfRange e) => reply (.outOfRange e) s
  | .notReset | .running | .faulted _ => reply .refused s

/-- `writeWord(address, value, counter)` (R64), while the engine is idle (R13). The counter is the host's own: CYC is
untouched. -/
def hostWriteWord (addr : Addr) (value : Word) (counter : Int) (s : State) : State :=
  match s.status with
  | .idle =>
    match memWrite2 s.mem addr value with
    | .ok m => reply (.counter (counter - 2)) { s with mem := m }
    | .error (.outOfRange e) => reply (.outOfRange e) s
  | .notReset | .running | .faulted _ => reply .refused s

/-- The entry of `Run(budget)` (R120): from `idle`, STATUS `running` and CYC the budget; otherwise refused (R183,
R213). -/
def hostRun (budget : Int) (s : State) : State :=
  match s.status with
  | .idle => { s with status := .running, cyc := budget }
  | .notReset | .running | .faulted _ => reply .refused s

/-- `inspect` (R13, R43), while the engine is idle or faulted. -/
def hostInspect (s : State) : State :=
  match s.status with
  | .idle | .faulted _ => reply (.snapshot (snapshotOf s)) s
  | .notReset | .running => reply .refused s

/-- One host transaction. -/
def hostAct (r : HostRequest) (s : State) : State :=
  match r with
  | .reset => hostReset s
  | .initialise => hostInitialise s
  | .read addr => hostRead addr s
  | .write addr byte => hostWrite addr byte s
  | .writeWord addr value counter => hostWriteWord addr value counter s
  | .run budget => hostRun budget s
  | .inspect => hostInspect s

end Sys2Proof.Machine
end

