-- ==== Sys2Proof/Machine/Loop.lean ====
section
/-! DEFINITION. Fetching an instruction's bytes, running it, the run loop's boundary (40_engine_loop_and_primitives.md R120,
R121, R138), and the host's turn between runs (00_scope.md R13). -/

namespace Sys2Proof.Machine

/-- The bytes of the instruction at PC, read as R121 and R126 to R129 fetch them: the opcode and a one-byte operand by
`FetchByte`, a two-byte operand by `FetchWord`, which raises where the operand's second byte lies at 0x10000 (R123).
-/
def fetchBytes (s : State) : Except Fault (List Byte) := do
  let op ← fetchByte s
  match (entryOf op.1).mode with
  | .none => pure [op.1]
  | .immediate | .zeroPage | .zeroPageX => do
    let v ← fetchByte op.2
    pure [op.1, v.1]
  | .absolute => do
    let w ← fetchWord op.2
    pure [op.1, lowByte w.1, highByte w.1]

/-- `Step()` (R121): fetch, decode, execute. -/
def runInstr (s : State) : Host.Outcome State Fault Refusal :=
  match fetchBytes s with
  | .error f => raise f s
  | .ok bytes =>
    match decode bytes with
    | .ok (i, _) => exec i s
    | .error e => .refused (.undecodable e)

/-- The end of a run found at an opcode boundary (R120, R138(a)): STATUS `idle`, and the host gets the completion. -/
def endRun (s : State) : State := reply .completed { s with status := .idle }

/-- The run loop at an opcode boundary (R120): another step while `CYC > 0`, else the run is over. -/
def runBoundary (s : State) : Host.Outcome State Fault Refusal :=
  if 0 < s.cyc then runInstr s else .next (endRun s)

/-- Between runs: the host's next transaction is served; with none, an engine that is not faulted holds its state
(R195), and a faulted one stops with its fault, terminal until reset (R183, U2). -/
def hostTurn (s : State) : Host.Outcome State Fault Refusal :=
  match s.pending with
  | r :: rest => .next (hostAct r { s with pending := rest })
  | [] =>
    match s.status with
    | .faulted addr => .fault (.outOfRange addr)
    | .notReset | .idle | .running => .next s

/-- Store bytes at consecutive addresses from `a`, wrapping as PC does (R24). -/
def placeBytes (m : Memory) (a : Word) : List Byte → Memory
  | [] => m
  | b :: rest => placeBytes (m.write a.toNat b) (a + 1) rest

/-- Place an instruction's bytes at PC and begin a run there: what the host's load and `Run` do (R214). A budget
already running is kept, else it is 1, which runs exactly one instruction (R194). -/
def placeInstr (s : State) (bytes : List Byte) : State :=
  { s with mem := placeBytes s.mem s.pc bytes, status := .running, cyc := if 0 < s.cyc then s.cyc else 1 }

end Sys2Proof.Machine
end

