-- ==== Sys2Proof/Machine/Step.lean ====
section
/-! DEFINITION. One step of the machine: the engine's inside a run, the host's between runs (00_scope.md R10, R13). -/

namespace Sys2Proof.Machine

/-- One step. STATUS says whose turn it is (R36, R76). -/
def step (s : State) : Host.Outcome State Fault Refusal :=
  match s.status with
  | .running => runBoundary s
  | .notReset | .idle | .faulted _ => hostTurn s

/-- The state with the instruction whose bits are `w` (numbered as the opcode table numbers them) stored where `step`
fetches next, inside a run (log 8). -/
def State.withFetchWord (s : State) (nbits w : Nat) : State := placeInstr s (tableBytes nbits w)

end Sys2Proof.Machine
end

