-- ==== Sys2Proof/Safety.lean ====
section
/-! DEFINITION. What counts as a safe run, in the terms the statements use: several steps in a row, a run that has not
faulted, and the invariants of the spec's prose. -/

namespace Sys2Proof.Machine

/-- `k` steps of the machine, stopping at the first fault or refusal. -/
def runSteps (k : Nat) (s : State) : Host.Outcome State Fault Refusal := Host.Core.run core k s

/-- A state is safe when its run has not ended with the fatal fault (60_exceptions.md R180, R182). -/
def safe (s : State) : Bool :=
  match s.status with
  | .faulted _ => false
  | .notReset | .idle | .running => true

/-- The byte is one of the four defined opcodes (30_encoding.md R98). -/
def isDefinedOpcode (b : Byte) : Bool := b == 0xA9 || b == 0xA5 || b == 0xB5 || b == 0x20

/-- 10_state.md R41, for the states whose registers are specified (`idle` and `running`): X, Y and the five flags that
no instruction writes hold their reset values, and SP has not gone below its reset value. -/
def registersFromReset (s : State) : Prop :=
  s.status = .idle ∨ s.status = .running →
    s.x = 0 ∧ s.y = 0 ∧ s.c = false ∧ s.i = false ∧ s.d = false ∧ s.b = false ∧ s.v = false ∧ 0x0100 ≤ s.sp.toNat

/-- 40_engine_loop_and_primitives.md R132: in a run CYC is never below -5, where the host asks only for budgets of at
least 1 (00_scope.md R14, P-budget). -/
def cycBounded (s : State) : Prop :=
  (s.status = .running → -5 ≤ s.cyc) ∧ ∀ budget, HostRequest.run budget ∈ s.pending → 1 ≤ budget

/-- 60_exceptions.md R181: the only address a run ever faults at is 0x10000. -/
def faultAddressKnown (s : State) : Prop := ∀ addr, s.status = .faulted addr → addr = 0x10000

/-- 10_state.md R37: every diagnostic record names an unknown opcode. -/
def diagUnknownOnly (s : State) : Prop := ∀ r ∈ s.diag, isDefinedOpcode r.opcode = false

/-- The calls of a list of JSR targets one after another, each as its own instruction; `none` once one of them does
not leave the run running (70_reset_and_hazards.md R220). -/
def callChain : List Word → State → Option State
  | [], s => some s
  | target :: rest, s =>
    match exec (.jsrAbs target) s with
    | .next t => if t.status = .running then callChain rest t else none
    | .fault _ => none
    | .refused _ => none

end Sys2Proof.Machine
end

