-- ==== Sys2Proof/Certificates/Slice0/Obligations.lean ====
section
/-! DEFINITION. The statements for the provers, from the numbered rules of spec/. "A step" is `step`; "an instruction" is
`exec`, the whole step from the opcode boundary, so that a meaning's PC and CYC include its fetches. -/

open Sys2Proof Sys2Proof.Machine

/-! Encoding (30_encoding.md) -/

/-- Decoding the encoding of any instruction, whatever bytes follow, gives that instruction and those bytes back (R90
to R99). By R101 every term of `Instr` is well-formed, so no premise is needed. -/
def Obligations.DecodeEncodeEveryInstruction : Prop :=
  ∀ (i : Instr) (rest : List Byte), decode (encode i ++ rest) = .ok (i, rest)

/-- The other direction: whatever bytes decode to an instruction begin with exactly its encoding (R90, R97). -/
def Obligations.DecodedBytesAreTheEncoding : Prop :=
  ∀ (bytes rest : List Byte) (i : Instr), decode bytes = .ok (i, rest) → encode i ++ rest = bytes

/-- An opcode byte followed by operand bytes is one whole instruction exactly when there are as many operand bytes as
the opcode's addressing mode takes, whatever their values (R91, R101). -/
def Obligations.DecoderTakesExactlyTheModesOperands : Prop :=
  ∀ (op : Byte) (operands : List Byte),
    (∃ i, decode (op :: operands) = .ok (i, [])) ↔ wellFormedOperands (entryOf op).mode operands = true

/-- Every opcode byte selects exactly one of the five behaviours, and only its own bytes are consumed (R92 to R99). -/
def Obligations.EveryOpcodeByteSelectsOneBehaviour : Prop :=
  ∀ op b1 b2 : Byte, ∃ i rest,
    decode [op, b1, b2] = .ok (i, rest) ∧ opcodeOf i = op ∧
    (if op = 0xA9 then i = .ldaImm b1 ∧ rest = [b2]
     else if op = 0xA5 then i = .ldaZp b1 ∧ rest = [b2]
     else if op = 0xB5 then i = .ldaZpx b1 ∧ rest = [b2]
     else if op = 0x20 then i = .jsrAbs (wordOf b2 b1) ∧ rest = []
     else isUnknown i = true ∧ rest = [b1, b2])

/-- R91: the opcode byte alone determines the length: 1 byte for an unknown opcode, 2 for the LDA modes, 3 for
Absolute. -/
def Obligations.OpcodeByteDeterminesLength : Prop :=
  (∀ (op : Byte) (bytes rest : List Byte) (i : Instr), decode (op :: bytes) = .ok (i, rest) →
    (op :: bytes).length = 1 + operandBytes (entryOf op).mode + rest.length) ∧
  operandBytes .none = 0 ∧ operandBytes .immediate = 1 ∧ operandBytes .zeroPage = 1 ∧ operandBytes .zeroPageX = 1 ∧
  operandBytes .absolute = 2

/-- R102: the decoder's entry of every opcode byte. -/
def Obligations.DecoderEntryOfEveryByte : Prop :=
  entryOf 0xA9 = { op := .lda, mode := .immediate, baseCycles := 2, extra := 0 } ∧
  entryOf 0xA5 = { op := .lda, mode := .zeroPage, baseCycles := 3, extra := 0 } ∧
  entryOf 0xB5 = { op := .lda, mode := .zeroPageX, baseCycles := 3, extra := 1 } ∧
  entryOf 0x20 = { op := .jsr, mode := .absolute, baseCycles := 6, extra := 0 } ∧
  ∀ b : Byte, b ≠ 0xA9 → b ≠ 0xA5 → b ≠ 0xB5 → b ≠ 0x20 →
    entryOf b = { op := .unk, mode := .none, baseCycles := 1, extra := 0 }

/-- A word written out from the encodings of R92 to R96 for each format. -/
def Obligations.SpecWordsDecode : Prop :=
  decode [0b10101001, 0x84] = .ok (.ldaImm 0x84, []) ∧
  decode [0b10100101, 0x42] = .ok (.ldaZp 0x42, []) ∧
  decode [0b10110101, 0x05] = .ok (.ldaZpx 0x05, []) ∧
  decode [0b00100000, 0x34, 0x12] = .ok (.jsrAbs 0x1234, []) ∧
  decode [0b11111111] = .ok (.unkFF, []) ∧ decode [0b00000000] = .ok (.unk00, [])

/-- R97: how each operand is formed: zero-extended, added modulo 256, concatenated; the immediate value is the byte
itself. -/
def Obligations.OperandAssembly : Prop :=
  (∀ imm8 : Byte, decode [0xA9, imm8] = .ok (.ldaImm imm8, [])) ∧
  (∀ zp : Byte, (zeroPageAddr zp).toNat = zp.toNat) ∧
  (∀ zp x : Byte, (zeroPageAddr (zp + x)).toNat = (zp.toNat + x.toNat) % 256) ∧
  (∀ lo hi : Byte, decode [0x20, lo, hi] = .ok (.jsrAbs (wordOf hi lo), []) ∧
    (wordOf hi lo).toNat = hi.toNat * 256 + lo.toNat)

/-! Memory (20_memory.md) -/

/-- The four memory primitives, by the validity of each byte address (R65). That the second byte's address is formed
without wrap, that both are checked before a store, and that the lowest invalid one is reported are the spec's own
decisions D5, D6 and D10. -/
def Obligations.MemoryPrimitives : Prop :=
  (∀ (m : Memory) (addr : Addr),
    memRead1 m addr = if addr.toNat < 65536 then .ok (m.read addr.toNat) else .error (.outOfRange addr)) ∧
  (∀ (m : Memory) (addr : Addr),
    memRead2 m addr =
      if 65536 ≤ addr.toNat then .error (.outOfRange addr)
      else if addr.toNat + 1 = 65536 then .error (.outOfRange 0x10000)
      else .ok (wordOf (m.read (addr.toNat + 1)) (m.read addr.toNat))) ∧
  (∀ (m : Memory) (addr : Addr) (v : Byte),
    memWrite1 m addr v = if addr.toNat < 65536 then .ok (m.write addr.toNat v) else .error (.outOfRange addr)) ∧
  (∀ (m : Memory) (addr : Addr) (v : Word),
    memWrite2 m addr v =
      if 65536 ≤ addr.toNat then .error (.outOfRange addr)
      else if addr.toNat + 1 = 65536 then .error (.outOfRange 0x10000)
      else .ok ((m.write addr.toNat (lowByte v)).write (addr.toNat + 1) (highByte v)))

/-- A cell reads what was written to it, and every other cell reads as before, in every memory list (R63, R73(c)). -/
def Obligations.CellReadsLatestWrite : Prop :=
  ∀ (m : Memory) (a k : Nat) (v : Byte), (m.write a v).read k = if k = a then v else m.read k

/-- R68: a word is stored low byte first, and reads back whole; instruction operands use the same order. -/
def Obligations.ByteOrderIsLittleEndian : Prop :=
  (∀ (m m' : Memory) (addr : Addr) (w : Word), memWrite2 m addr w = .ok m' →
    m'.read addr.toNat = lowByte w ∧ m'.read (addr.toNat + 1) = highByte w ∧ memRead2 m' addr = .ok w) ∧
  (∀ w : Word, encode (.jsrAbs w) = [0x20, lowByte w, highByte w])

/-- Two memories in canonical form that read the same everywhere are the same list (R35: 65536 cells and nothing
else). -/
def Obligations.EqualCellsEqualMemory : Prop :=
  ∀ m m' : Memory, m.wf → m'.wf → (∀ a, m.read a = m'.read a) → m = m'

/-! The counted primitives, the addressing modes and the flag rule (40_engine_loop_and_primitives.md) -/

/-- R122, R124: what the one-byte counted primitives answer, and what they do to PC and CYC. `FetchByte` never faults;
`ReadByte` faults from 65536 on, which no zero-page address reaches. -/
def Obligations.BytePrimitives : Prop :=
  (∀ s : State, fetchByte s = .ok (s.mem.read s.pc.toNat, { s with pc := s.pc + 1, cyc := s.cyc - 1 })) ∧
  (∀ (addr : Addr) (s : State), readByte addr s =
    if addr.toNat < 65536 then .ok (s.mem.read addr.toNat, { s with cyc := s.cyc - 1 })
    else .error (.outOfRange addr)) ∧
  (∀ (zp : Byte) (s : State),
    readByte (zeroPageAddr zp) s = .ok (s.mem.read zp.toNat, { s with cyc := s.cyc - 1 }))

/-- The word primitives and the Absolute mode (R123, R125, R129): little-endian, two bytes, two cycles; at the top of
memory the second byte's address 0x10000 does not wrap and is refused. That last is the spec's own decision D5; that
the Absolute mode takes the target already decoded is the model's choice (log 10). -/
def Obligations.WordPrimitives : Prop :=
  (∀ s : State, fetchWord s =
    if s.pc = 0xFFFF then .error (.outOfRange 0x10000)
    else .ok (wordOf (s.mem.read (s.pc.toNat + 1)) (s.mem.read s.pc.toNat),
      { s with pc := s.pc + 2, cyc := s.cyc - 2 })) ∧
  (∀ (addr : Addr) (v : Word) (s : State), writeWordCounted addr v s =
    if 65536 ≤ addr.toNat then .error (.outOfRange addr)
    else if addr.toNat = 0xFFFF then .error (.outOfRange 0x10000)
    else .ok { s with
      mem := (s.mem.write addr.toNat (lowByte v)).write (addr.toNat + 1) (highByte v)
      cyc := s.cyc - 2 }) ∧
  (∀ (target : Word) (s : State), modeAbsolute target s =
    if s.pc = 0xFFFF then .error (.outOfRange 0x10000)
    else .ok (target, { s with pc := s.pc + 2, cyc := s.cyc - 2 }))

/-- What each of the LDA modes yields and costs (R126 to R128), given the instruction's decoded operand byte; Zero
Page,X adds X modulo 256, stays in the zero page and costs one cycle more. That a mode takes the operand already
decoded, where the rules fetch it there, is the model's choice (log 10); that it is the byte in memory is said by
`StepLdaImmediate`, `StepLdaZeroPage` and `StepLdaZeroPageX`. -/
def Obligations.AddressingModes : Prop :=
  (∀ (v : Byte) (s : State), modeImmediate v s = .ok (v, { s with pc := s.pc + 1, cyc := s.cyc - 1 })) ∧
  (∀ (zp : Byte) (s : State),
    modeZeroPage zp s = .ok (zeroPageAddr zp, { s with pc := s.pc + 1, cyc := s.cyc - 1 }) ∧
    (zeroPageAddr zp).toNat = zp.toNat) ∧
  (∀ (zp : Byte) (s : State),
    modeZeroPageX zp s = .ok (zeroPageAddr (zp + s.x), { s with pc := s.pc + 1, cyc := s.cyc - 2 }) ∧
    (zeroPageAddr (zp + s.x)).toNat = (zp.toNat + s.x.toNat) % 256 ∧ (zeroPageAddr (zp + s.x)).toNat ≤ 0x00FF)

/-- R130: SetZN's two flags and its truth table by value; and, over every instruction that leaves the run running, C,
I, D, B and V are unchanged, while Z and N are those of the new A for LDA and unchanged for every other instruction.
-/
def Obligations.FlagRule : Prop :=
  (∀ (v : Byte) (s : State), setZN v s = { s with z := decide (v = 0), n := v.getLsbD 7 } ∧
    (v = 0x00 → (setZN v s).z = true ∧ (setZN v s).n = false) ∧
    (1 ≤ v.toNat ∧ v.toNat ≤ 0x7F → (setZN v s).z = false ∧ (setZN v s).n = false) ∧
    (0x80 ≤ v.toNat → (setZN v s).z = false ∧ (setZN v s).n = true)) ∧
  (∀ (i : Instr) (s t : State), s.status = .running → exec i s = .next t → t.status = .running →
    t.c = s.c ∧ t.i = s.i ∧ t.d = s.d ∧ t.b = s.b ∧ t.v = s.v ∧
    (if (entryOf (opcodeOf i)).op = .lda then t.z = decide (t.a = 0) ∧ t.n = t.a.getLsbD 7
     else t.z = s.z ∧ t.n = s.n))

/-! The instructions, each from the opcode boundary (41, 42, 43) -/

/-- LDA Immediate completes from every state: A the operand, Z and N from it, PC + 2, CYC - 2, nothing else (R150). -/
def Obligations.LdaImmediateResult : Prop :=
  ∀ (v : Byte) (s : State), exec (.ldaImm v) s =
    .next { s with a := v, z := decide (v = 0), n := v.getLsbD 7, pc := s.pc + 2, cyc := s.cyc - 2 }

/-- LDA Zero Page completes from every state: A the zero-page cell, PC + 2, CYC - 3, nothing else (R151). -/
def Obligations.LdaZeroPageResult : Prop :=
  ∀ (zp : Byte) (s : State), exec (.ldaZp zp) s =
    .next { s with
      a := s.mem.read zp.toNat, z := decide (s.mem.read zp.toNat = 0), n := (s.mem.read zp.toNat).getLsbD 7
      pc := s.pc + 2, cyc := s.cyc - 3 }

/-- LDA Zero Page,X completes from every state: A the cell at (zp + X) mod 256, PC + 2, CYC - 4, nothing else (R152).
-/
def Obligations.LdaZeroPageXResult : Prop :=
  ∀ (zp : Byte) (s : State), ∃ v : Byte, v = s.mem.read ((zp.toNat + s.x.toNat) % 256) ∧
    exec (.ldaZpx zp) s =
      .next { s with a := v, z := decide (v = 0), n := v.getLsbD 7, pc := s.pc + 2, cyc := s.cyc - 4 }

/-- JSR completes unless its operand would reach 0x10000 or its word would: PC the target, the address of its own last
byte stored little-endian at SP, SP + 1, CYC - 6; no flag, no other register, and no other cell (R160). The two
exclusions are the fault of `JsrFaults` (the spec's own decision D5); PC's wrap is D4 and D19, the stack convention
D1. -/
def Obligations.JsrResult : Prop :=
  ∀ (target : Word) (s : State), s.pc ≠ 0xFFFE → s.sp ≠ 0xFFFF →
    ∃ m : Memory,
      exec (.jsrAbs target) s = .next { s with pc := target, sp := s.sp + 1, cyc := s.cyc - 6, mem := m } ∧
      m.read s.sp.toNat = lowByte (s.pc + 2) ∧ m.read (s.sp.toNat + 1) = highByte (s.pc + 2) ∧
      ∀ a, a ≠ s.sp.toNat → a ≠ s.sp.toNat + 1 → m.read a = s.mem.read a

/-- JSR takes the fault OutOfRange(0x10000) when its operand's second byte (opcode at 0xFFFE) or its word's second
byte (SP = 0xFFFF) would lie there: memory and DIAG are as before, the host gets the address, and nothing is said of
the registers, the flags and CYC, which are unspecified (R160, R182). The fault's two conditions and its address rest
on the spec's own decisions D5, D6 and D10, the status on D9. -/
def Obligations.JsrFaults : Prop :=
  ∀ (target : Word) (s : State), s.pc = 0xFFFE ∨ s.sp = 0xFFFF →
    ∃ t, exec (.jsrAbs target) s = .next t ∧ t.status = .faulted 0x10000 ∧ t.mem = s.mem ∧ t.diag = s.diag ∧
      t.pending = s.pending ∧ t.replies = s.replies ++ [.outOfRange 0x10000]

/-- Each of the 252 unknown opcodes (every `i` with `isUnknown i`: the constructors unk00 to unkFF) completes from
every state: one diagnostic record with the opcode byte and its own address, PC + 1, CYC - 1, nothing else (R170; the
record's form is the spec's own decision D11). -/
def Obligations.UnknownOpcodeResult : Prop :=
  ∀ (i : Instr) (s : State), isUnknown i = true → exec i s =
    .next { s with
      pc := s.pc + 1, cyc := s.cyc - 1, diag := s.diag ++ [{ opcode := opcodeOf i, addr := s.pc }] }

/-- The 252 unknown opcodes named by their bytes: each byte but the four defined ones is the opcode of an instruction
that `isUnknown` holds of, and the four defined instructions are not (R99). -/
def Obligations.UnknownOpcodesAreAllOtherBytes : Prop :=
  ∀ op : Byte, isDefinedOpcode op = false ↔ ∃ i, opcodeOf i = op ∧ isUnknown i = true

/-! The same from memory, through `step` -/

/-- R150 whole: encoding, and the net effect of the step from an opcode 0xA9 at PC. -/
def Obligations.StepLdaImmediate : Prop :=
  (∀ v : Byte, encode (.ldaImm v) = [0xA9, v]) ∧
  ∀ s : State, s.status = .running → 0 < s.cyc → s.mem.read s.pc.toNat = 0xA9 →
    ∃ v : Byte, v = s.mem.read (s.pc + 1).toNat ∧
      step s = .next { s with a := v, z := decide (v = 0), n := v.getLsbD 7, pc := s.pc + 2, cyc := s.cyc - 2 }

/-- R151 whole: encoding, and the net effect of the step from an opcode 0xA5 at PC. -/
def Obligations.StepLdaZeroPage : Prop :=
  (∀ zp : Byte, encode (.ldaZp zp) = [0xA5, zp]) ∧
  ∀ s : State, s.status = .running → 0 < s.cyc → s.mem.read s.pc.toNat = 0xA5 →
    ∃ v : Byte, v = s.mem.read (s.mem.read (s.pc + 1).toNat).toNat ∧
      step s = .next { s with a := v, z := decide (v = 0), n := v.getLsbD 7, pc := s.pc + 2, cyc := s.cyc - 3 }

/-- R152 whole: encoding, and the net effect of the step from an opcode 0xB5 at PC. -/
def Obligations.StepLdaZeroPageX : Prop :=
  (∀ zp : Byte, encode (.ldaZpx zp) = [0xB5, zp]) ∧
  ∀ s : State, s.status = .running → 0 < s.cyc → s.mem.read s.pc.toNat = 0xB5 →
    ∃ v : Byte, v = s.mem.read (((s.mem.read (s.pc + 1).toNat).toNat + s.x.toNat) % 256) ∧
      step s = .next { s with a := v, z := decide (v = 0), n := v.getLsbD 7, pc := s.pc + 2, cyc := s.cyc - 4 }

/-- JSR from memory (R160, R161): encoding, the net effect of the step from an opcode 0x20 at PC (the word P - 1, P
the advanced PC), and the two faults, in which memory is as before and nothing is said of the registers. The stack
convention is the spec's own decision D1, PC's wrap D4 and D19, the faults D5, D6, D9 and D10. -/
def Obligations.StepJsr : Prop :=
  (∀ target : Word, encode (.jsrAbs target) = [0x20, lowByte target, highByte target]) ∧
  ∀ s : State, s.status = .running → 0 < s.cyc → s.mem.read s.pc.toNat = 0x20 →
    if s.pc = 0xFFFE ∨ s.sp = 0xFFFF then
      ∃ t, step s = .next t ∧ t.status = .faulted 0x10000 ∧ t.mem = s.mem ∧ t.diag = s.diag ∧
        t.pending = s.pending ∧ t.replies = s.replies ++ [.outOfRange 0x10000]
    else
      ∃ m : Memory,
        step s = .next { s with
          pc := wordOf (s.mem.read (s.pc + 2).toNat) (s.mem.read (s.pc + 1).toNat)
          sp := s.sp + 1, cyc := s.cyc - 6, mem := m } ∧
        m.read s.sp.toNat = lowByte (s.pc + 3 - 1) ∧ m.read (s.sp.toNat + 1) = highByte (s.pc + 3 - 1) ∧
        ∀ a, a ≠ s.sp.toNat → a ≠ s.sp.toNat + 1 → m.read a = s.mem.read a

/-- R170 whole: the net effect of the step from any opcode byte that is not one of the four. -/
def Obligations.StepUnknownOpcode : Prop :=
  (∀ i : Instr, isUnknown i = true → encode i = [opcodeOf i]) ∧
  ∀ s : State, s.status = .running → 0 < s.cyc → isDefinedOpcode (s.mem.read s.pc.toNat) = false →
    step s = .next { s with
      pc := s.pc + 1, cyc := s.cyc - 1
      diag := s.diag ++ [{ opcode := s.mem.read s.pc.toNat, addr := s.pc }] }

/-- A step runs the decoded instruction: in a run with CYC > 0, when the bytes at PC decode to `i`, the step is `exec
i`, which adds nothing around it: the fetches' PC and CYC are in `exec` (R121). Operand addresses wrap as PC does
(R24); for a JSR whose third byte lies at 0x10000 both sides are the fault, whatever byte is read in its place. -/
def Obligations.StepRunsDecodedInstruction : Prop :=
  ∀ (s : State) (i : Instr) (rest : List Byte), s.status = .running → 0 < s.cyc →
    decode [s.mem.read s.pc.toNat, s.mem.read (s.pc + 1).toNat, s.mem.read (s.pc + 2).toNat] = .ok (i, rest) →
    step s = exec i s

/-! What instructions leave alone -/

/-- What every instruction may change when it leaves the run running: X, Y, the host's lists and STATUS never; A only
LDA; SP and memory only JSR; DIAG only an unknown opcode (R21 to R25, R75, R171). -/
def Obligations.OnlyTheNamedElementsChange : Prop :=
  ∀ (i : Instr) (s t : State), s.status = .running → exec i s = .next t → t.status = .running →
    t.x = s.x ∧ t.y = s.y ∧ t.pending = s.pending ∧ t.replies = s.replies ∧
    ((entryOf (opcodeOf i)).op ≠ .lda → t.a = s.a) ∧
    ((entryOf (opcodeOf i)).op ≠ .jsr → t.sp = s.sp ∧ t.mem = s.mem) ∧
    ((entryOf (opcodeOf i)).op = .jsr → t.sp = s.sp + 1) ∧
    ((entryOf (opcodeOf i)).op ≠ .unk → t.diag = s.diag)

/-- R131: a completed instruction changes CYC by exactly its total, which its opcode alone gives: 2, 3, 4, 6 and 1. -/
def Obligations.CycleTotals : Prop :=
  (∀ (i : Instr) (s t : State), s.status = .running → exec i s = .next t → t.status = .running →
    t.cyc = s.cyc - ((entryOf (opcodeOf i)).baseCycles + (entryOf (opcodeOf i)).extra : Nat)) ∧
  (entryOf 0xA9).baseCycles + (entryOf 0xA9).extra = 2 ∧ (entryOf 0xA5).baseCycles + (entryOf 0xA5).extra = 3 ∧
  (entryOf 0xB5).baseCycles + (entryOf 0xB5).extra = 4 ∧ (entryOf 0x20).baseCycles + (entryOf 0x20).extra = 6 ∧
  ∀ b, isDefinedOpcode b = false → (entryOf b).baseCycles + (entryOf b).extra = 1

/-- An instruction of a run faults exactly when it is a JSR with its opcode at 0xFFFE or with SP = 0xFFFF, always at
0x10000; the fault leaves memory, DIAG and the host's requests as they were and hands the address to the host (R181,
R182; the spec's own decisions D5, D6, D9, D10). -/
def Obligations.ExactlyWhenAnInstructionFaults : Prop :=
  ∀ (i : Instr) (s t : State), s.status = .running → exec i s = .next t →
    (t.status ≠ .running ↔ (entryOf (opcodeOf i)).op = .jsr ∧ (s.pc = 0xFFFE ∨ s.sp = 0xFFFF)) ∧
    (t.status ≠ .running →
      t.status = .faulted 0x10000 ∧ t.mem = s.mem ∧ t.diag = s.diag ∧ t.pending = s.pending ∧
      t.replies = s.replies ++ [.outOfRange 0x10000])

/-- R23, R26, R28 to R31: Y and the flags C, I, D, B and V are 0 at reset; no step writes them but one that serves a
Reset (a fault leaves them unspecified, and of it nothing is claimed); and no instruction reads them: changing them
changes no other element of its result. -/
def Obligations.StorageWrittenByResetOnlyAndNeverRead : Prop :=
  (State.reset.y = 0x00 ∧ State.reset.c = false ∧ State.reset.i = false ∧ State.reset.d = false ∧
    State.reset.b = false ∧ State.reset.v = false) ∧
  (∀ s t : State, step s = .next t → (s.status = .running → safe t = true) →
    (s.status ≠ .running → s.pending.head? ≠ some .reset) →
    t.y = s.y ∧ t.c = s.c ∧ t.i = s.i ∧ t.d = s.d ∧ t.b = s.b ∧ t.v = s.v) ∧
  (∀ (i : Instr) (s t : State) (y : Byte) (c i' d b v : Bool),
    s.status = .running → exec i s = .next t → t.status = .running →
    exec i { s with y := y, c := c, i := i', d := d, b := b, v := v } =
      .next { t with y := y, c := c, i := i', d := d, b := b, v := v })

/-- No instruction looks at CYC: begun with any other count, even at or below what it costs, it does the same and
subtracts the same (R34, R133). -/
def Obligations.InstructionIgnoresTheBudget : Prop :=
  ∀ (i : Instr) (s t : State) (k : Int), s.status = .running → exec i s = .next t → t.status = .running →
    exec i { s with cyc := k } = .next { t with cyc := k - (s.cyc - t.cyc) }

/-- DIAG is an output only: a different log before an instruction changes nothing but the log after it, to which the
same records are appended. For instructions that do not fault: of the registers after a fault nothing is claimed
(R171). -/
def Obligations.DiagnosticsFeedNothingBack : Prop :=
  ∀ (i : Instr) (s t : State) (log : List DiagRecord),
    s.status = .running → exec i s = .next t → t.status = .running →
    ∃ records, t.diag = s.diag ++ records ∧
      exec i { s with diag := log } = .next { t with diag := log ++ records }

/-- The host has no move inside a run: what it has still to ask changes nothing of a running machine's step. The source
only prohibits such a move (R76); that the model gives the host none is the spec's own decision D13, which the model
follows (log 4: unsafe against a host that breaks the prohibition), and the lists are the model's form (log 3). For
steps that do not fault: of the registers after a fault nothing is claimed. -/
def Obligations.HostWaitsWhileRunning : Prop :=
  ∀ (s t : State) (q : List HostRequest), s.status = .running → step s = .next t → safe t = true →
    t.pending = s.pending ∧ step { s with pending := q } = .next { t with pending := q }

/-! Runs (R120, R132 to R138) -/

/-- R120, R138: a run asked for while idle begins with CYC the budget and nothing else changed (a second run too
continues from where PC stands, R135); one asked for in any other status is refused with nothing changed but the
reply; a running machine whose CYC is at or below 0 ends its run with nothing else changed. That a second run
continues is the spec's own decision D16, the refusals D9 and D15; the host's lists are the model's form of the
transactions (log 3). -/
def Obligations.RunBeginsAndEnds : Prop :=
  (∀ (s : State) (budget : Int) (rest : List HostRequest), s.status = .idle → s.pending = .run budget :: rest →
    step s = .next { s with status := .running, cyc := budget, pending := rest }) ∧
  (∀ (s : State) (budget : Int) (rest : List HostRequest),
    s.status ≠ .idle → s.status ≠ .running → s.pending = .run budget :: rest →
    step s = .next { s with pending := rest, replies := s.replies ++ [.refused] }) ∧
  (∀ s : State, s.status = .running → s.cyc ≤ 0 →
    step s = .next { s with status := .idle, replies := s.replies ++ [.completed] })

/-- A run with a budget of zero or less executes no step: CYC is the budget and, but for the host's lists (log 3),
every other element is unchanged (R136, the spec's own decision D8). -/
def Obligations.NonPositiveBudgetRunsNothing : Prop :=
  ∀ (s : State) (budget : Int) (rest : List HostRequest),
    s.status = .idle → s.pending = .run budget :: rest → budget ≤ 0 →
    runSteps 2 s = .next { s with cyc := budget, pending := rest, replies := s.replies ++ [.completed] }

/-- A run with CYC = b >= 1 (R137, R132, both the spec's own derivations) executes at least 1 and at most b
instructions, each begun in the running state with CYC > 0, and then it is over: CYC is between -5 and 0, which ends
the run at the next boundary, or it has faulted at 0x10000. -/
def Obligations.EveryRunEnds : Prop :=
  ∀ s : State, s.status = .running → 0 < s.cyc →
    ∃ k : Nat, 1 ≤ k ∧ (k : Int) ≤ s.cyc ∧
      (∀ j < k, ∃ u, runSteps j s = .next u ∧ u.status = .running ∧ 0 < u.cyc) ∧
      ∃ t, runSteps k s = .next t ∧
        ((t.status = .running ∧ -5 ≤ t.cyc ∧ t.cyc ≤ 0) ∨ t.status = .faulted 0x10000)

/-- `Run(1)` executes exactly one instruction: after it the machine has faulted, or its next step ends the run (R194,
the spec's own derivation). -/
def Obligations.BudgetOneRunsOneInstruction : Prop :=
  ∀ s : State, s.status = .running → s.cyc = 1 →
    ∃ t, step s = .next t ∧
      (t.status = .faulted 0x10000 ∨
        (t.status = .running ∧ t.cyc ≤ 0 ∧
          step t = .next { t with status := .idle, replies := t.replies ++ [.completed] }))

/-- Over zeroed memory (R227, the spec's own derivation; PC's wrap is D4) a run is a run of unknown opcodes 0x00, one
a cycle: after `k` steps within the budget PC has moved by `k`, CYC is less `k`, DIAG has one record a byte in order,
and nothing else has changed. -/
def Obligations.ZeroedMemoryExecutes : Prop :=
  ∀ (k : Nat) (s : State), s.status = .running → (k : Int) ≤ s.cyc → (∀ a, s.mem.read a = 0) →
    runSteps k s = .next { s with
      pc := s.pc + BitVec.ofNat 16 k, cyc := s.cyc - k
      diag := s.diag ++ (List.range k).map fun j => { opcode := 0x00, addr := s.pc + BitVec.ofNat 16 j } }

/-- The overlap of return words (R220, the spec's own derivation): after `n` completed calls from stack pointer
`s.sp`, SP has moved by `n`, only the low byte of each word but the last survives, and the last word's high byte
stands above them. The words are PC + 2 of each call. -/
def Obligations.ReturnWordsOverlap : Prop :=
  ∀ (targets : List Word) (s t : State), s.status = .running → callChain targets s = some t →
    t.sp.toNat = s.sp.toNat + targets.length ∧
    (∀ k < targets.length, t.mem.read (s.sp.toNat + k) = lowByte ((s.pc :: targets).getD k 0 + 2)) ∧
    (0 < targets.length →
      t.mem.read (s.sp.toNat + targets.length) = highByte ((s.pc :: targets).getD (targets.length - 1) 0 + 2))

/-- A store is seen by the next fetch: a JSR to the address SP holds executes, as its next instruction, the low byte
of the word it has just stored (shown where that byte is an unknown opcode) (R77, R222, the spec's own derivations).
-/
def Obligations.NextFetchSeesTheStore : Prop :=
  ∀ s : State, s.status = .running → 6 < s.cyc → s.mem.read s.pc.toNat = 0x20 → s.pc ≠ 0xFFFE → s.sp ≠ 0xFFFF →
    wordOf (s.mem.read (s.pc + 2).toNat) (s.mem.read (s.pc + 1).toNat) = s.sp →
    isDefinedOpcode (lowByte (s.pc + 2)) = false →
    ∃ t, runSteps 2 s = .next t ∧ t.pc = s.sp + 1 ∧ t.cyc = s.cyc - 7 ∧
      t.diag = s.diag ++ [{ opcode := lowByte (s.pc + 2), addr := s.sp }]

/-! Reset and the host's transactions (00, 20, 60, 70) -/

/-- R40: the values reset gives. CYC is not among them: reset does not define it, and the value it has in
`State.reset` is the model's choice (log 1), of which nothing is said here. STATUS and DIAG are the spec's own
decisions D9 and D11. -/
def Obligations.ResetValues : Prop :=
  State.reset.pc = 0xFFFC ∧ State.reset.sp = 0x0100 ∧ State.reset.a = 0x00 ∧ State.reset.x = 0x00 ∧
  State.reset.y = 0x00 ∧ State.reset.c = false ∧ State.reset.z = false ∧ State.reset.i = false ∧
  State.reset.d = false ∧ State.reset.b = false ∧ State.reset.v = false ∧ State.reset.n = false ∧
  (∀ a, State.reset.mem.read a = 0x00) ∧ State.reset.status = .idle ∧ State.reset.diag = []

/-- Reset, from any state that is not inside a run, never-reset and faulted ones included, whatever memory holds,
yields the one reset state (R210, R212): every element but CYC, which it does not define. STATUS and DIAG are the
spec's own decisions D9 and D11. (The last three fields are the host's lists and the model's index of free values, of
which nothing is claimed.) -/
def Obligations.ResetFromAnyState : Prop :=
  ∀ (s : State) (rest : List HostRequest), s.status ≠ .running → s.pending = .reset :: rest →
    ∃ (cyc : Int) (free : Nat), step s =
      .next { State.reset with
        cyc := cyc, free := free, pending := rest, replies := s.replies ++ [.done] }

/-- R61: the host's `initialise` on an idle engine makes every cell 0x00 and changes no other element; Reset performs
it, so every cell of the reset state is 0x00 too. -/
def Obligations.HostInitialise : Prop :=
  ∀ (s : State) (rest : List HostRequest), s.status = .idle → s.pending = .initialise :: rest →
    ∃ m : Memory, step s = .next { s with mem := m, pending := rest, replies := s.replies ++ [.done] } ∧
      ∀ a, m.read a = 0x00 ∧ State.reset.mem.read a = 0x00

/-- The host's `read` on an idle or faulted engine answers the byte, or OutOfRange from 65536 on, and changes nothing
(R62; the address reported is the spec's own decision D10, the statuses D9 and D13). -/
def Obligations.HostRead : Prop :=
  ∀ (s : State) (addr : Addr) (rest : List HostRequest),
    s.status = .idle ∨ (∃ e, s.status = .faulted e) → s.pending = .read addr :: rest →
    step s = .next { s with
      pending := rest
      replies := s.replies ++
        [if addr.toNat < 65536 then .byte (s.mem.read addr.toNat) else .outOfRange addr] }

/-- The host's `write` on an idle engine stores the byte in that cell and no other; from 65536 on it fails and memory
is as before (R63; the address reported is the spec's own decision D10, the status D13). -/
def Obligations.HostWrite : Prop :=
  ∀ (s : State) (addr : Addr) (byte : Byte) (rest : List HostRequest),
    s.status = .idle → s.pending = .write addr byte :: rest →
    if addr.toNat < 65536 then
      ∃ m : Memory, step s = .next { s with mem := m, pending := rest, replies := s.replies ++ [.done] } ∧
        m.read addr.toNat = byte ∧ ∀ a, a ≠ addr.toNat → m.read a = s.mem.read a
    else step s = .next { s with pending := rest, replies := s.replies ++ [.outOfRange addr] }

/-- The host's `writeWord` on an idle engine (R64; the spec's own decisions D5, D6, D10, D13) stores both bytes
little-endian and takes 2 from the host's own counter, CYC untouched; if either byte address is invalid it fails with
that address and no cell changes. -/
def Obligations.HostWriteWord : Prop :=
  ∀ (s : State) (addr : Addr) (value : Word) (counter : Int) (rest : List HostRequest),
    s.status = .idle → s.pending = .writeWord addr value counter :: rest →
    if addr.toNat < 65535 then
      ∃ m : Memory,
        step s = .next { s with mem := m, pending := rest, replies := s.replies ++ [.counter (counter - 2)] } ∧
        m.read addr.toNat = lowByte value ∧ m.read (addr.toNat + 1) = highByte value ∧
        ∀ a, a ≠ addr.toNat → a ≠ addr.toNat + 1 → m.read a = s.mem.read a
    else
      step s = .next { s with
        pending := rest
        replies := s.replies ++ [.outOfRange (if addr.toNat = 65535 then 0x10000 else addr)] }

/-- After a fault (R183, the spec's own decision D9): a Run is refused and changes nothing but the reply, memory and
DIAG are still readable, and Reset gives the reset state, idle. -/
def Obligations.AfterAFault : Prop :=
  ∀ (s : State) (e : Addr) (rest : List HostRequest), s.status = .faulted e →
    (∀ budget, s.pending = .run budget :: rest →
      step s = .next { s with pending := rest, replies := s.replies ++ [.refused] }) ∧
    (∀ addr : Addr, addr.toNat < 65536 → s.pending = .read addr :: rest →
      step s = .next { s with pending := rest, replies := s.replies ++ [.byte (s.mem.read addr.toNat)] }) ∧
    (s.pending = .inspect :: rest →
      ∃ shot : Snapshot, shot.mem = s.mem ∧ shot.diag = s.diag ∧ shot.status = s.status ∧
        step s = .next { s with pending := rest, replies := s.replies ++ [.snapshot shot] }) ∧
    (s.pending = .reset :: rest →
      ∃ (cyc : Int) (free : Nat), step s =
        .next { State.reset with
          cyc := cyc, free := free, pending := rest, replies := s.replies ++ [.done] })

/-- The host's inspection of an idle engine reads every element of R20 and changes nothing (R13, R43). -/
def Obligations.InspectReadsEveryElement : Prop :=
  ∀ (s : State) (rest : List HostRequest), s.status = .idle → s.pending = .inspect :: rest →
    step s = .next { s with
      pending := rest
      replies := s.replies ++ [.snapshot {
        a := s.a, x := s.x, y := s.y, pc := s.pc, sp := s.sp, c := s.c, z := s.z, i := s.i, d := s.d, b := s.b
        v := s.v, n := s.n, cyc := s.cyc, mem := s.mem, status := s.status, diag := s.diag }] }

/-- Before the first reset nothing but Reset is served: every other transaction is refused and changes nothing but the
reply (R39, R213 for Run; for the others the model's reading of R13's table, log 7). -/
def Obligations.NothingBeforeReset : Prop :=
  ∀ (s : State) (r : HostRequest) (rest : List HostRequest), s.status = .notReset → r ≠ .reset → s.pending = r :: rest →
    step s = .next { s with pending := rest, replies := s.replies ++ [.refused] }

/-- With no transaction to serve, an idle or never-reset engine holds all its state (R195); a faulted one stops with
its fault, the model's reading of a status that only Reset leaves (U2; log 9). -/
def Obligations.NothingMovesWithoutTheHost : Prop :=
  (∀ s : State, s.status = .idle ∨ s.status = .notReset → s.pending = [] → step s = .next s) ∧
  (∀ (s : State) (e : Addr), s.status = .faulted e → s.pending = [] → step s = .fault (.outOfRange e))

/-! Whole-machine rules -/

/-- No step is ever refused: there is no encoding that traps and no instruction without an effect (R99, R100). -/
def Obligations.NoStepIsRefused : Prop :=
  ∀ (s : State) (why : Refusal), step s ≠ .refused why

/-- The only way a run ends other than normally is the fatal fault of JSR: a step of a running machine always gives a
next state, which is running, idle with CYC at or below 0, or faulted at 0x10000 with memory and DIAG as before (R138,
R180; the spec's own decisions D5, D9, D10). -/
def Obligations.AStepOfARun : Prop :=
  ∀ s : State, s.status = .running → ∃ t, step s = .next t ∧
    (t.status = .running ∨ (t.status = .idle ∧ t.cyc = s.cyc ∧ s.cyc ≤ 0) ∨
      (t.status = .faulted 0x10000 ∧ t.mem = s.mem ∧ t.diag = s.diag))

/-- Every step, the host's loads among them, keeps memory in its canonical form: 65536 cells and no others (R35, R66).
-/
def Obligations.StepKeepsMemoryForm : Prop :=
  ∀ s t : State, s.mem.wf → step s = .next t → t.mem.wf

/-- Every step keeps the invariants of R41 (the spec's own derivation): X, Y, C, I, D, B and V at their reset values
and SP at or above 0x0100, wherever the registers are specified. -/
def Obligations.StepKeepsRegistersFromReset : Prop :=
  ∀ s t : State, registersFromReset s → step s = .next t → registersFromReset t

/-- Every step keeps CYC at or above -5 inside a run, for hosts that ask only for positive budgets; and a run that
ends so ends with CYC between -5 and 0 (R132, the spec's own derivation). -/
def Obligations.StepKeepsCycBound : Prop :=
  ∀ s t : State, cycBounded s → step s = .next t →
    cycBounded t ∧ (s.status = .running → t.status = .idle → -5 ≤ t.cyc ∧ t.cyc ≤ 0)

/-- Every step keeps it that a run only ever faults at 0x10000 and that every diagnostic record names an unknown
opcode (R37, R181; the address is the spec's own decision D10, the record's form D11). -/
def Obligations.StepKeepsFaultAndDiagRecords : Prop :=
  ∀ s t : State, faultAddressKnown s → diagUnknownOnly s → step s = .next t → faultAddressKnown t ∧ diagUnknownOnly t

/-- The reset state has every one of these invariants. -/
def Obligations.ResetHasTheInvariants : Prop :=
  State.reset.mem.wf ∧ registersFromReset State.reset ∧ cycBounded State.reset ∧ faultAddressKnown State.reset ∧
  diagUnknownOnly State.reset
end

