-- ==== Sys2Proof/Laws/Bits.lean ====
section
/-! SUPPORT. The byte-order helpers and the addresses formed from registers: what each is as a number. -/

namespace Sys2Proof.Laws

open Sys2Proof.Machine

theorem lowByte_toNat (w : Word) : (lowByte w).toNat = w.toNat % 256 := by
  simp [lowByte]

theorem highByte_toNat (w : Word) : (highByte w).toNat = w.toNat / 256 := by
  have h := w.isLt
  simp only [highByte, BitVec.extractLsb'_toNat, Nat.shiftRight_eq_div_pow]
  omega

theorem wordOf_toNat (hi lo : Byte) : (wordOf hi lo).toNat = hi.toNat * 256 + lo.toNat := by
  have h := lo.isLt
  simp only [wordOf, BitVec.toNat_append]
  rw [← Nat.shiftLeft_add_eq_or_of_lt (by simpa using h), Nat.shiftLeft_eq]

@[simp] theorem wordOf_high_low (w : Word) : wordOf (highByte w) (lowByte w) = w := by
  apply BitVec.eq_of_toNat_eq
  rw [wordOf_toNat, highByte_toNat, lowByte_toNat]
  omega

@[simp] theorem lowByte_wordOf (hi lo : Byte) : lowByte (wordOf hi lo) = lo := by
  apply BitVec.eq_of_toNat_eq
  have h := lo.isLt
  rw [lowByte_toNat, wordOf_toNat]
  omega

@[simp] theorem highByte_wordOf (hi lo : Byte) : highByte (wordOf hi lo) = hi := by
  apply BitVec.eq_of_toNat_eq
  have h := lo.isLt
  rw [highByte_toNat, wordOf_toNat]
  omega

@[simp] theorem zext17_toNat (w : Word) : (zext17 w).toNat = w.toNat := by
  have h := w.isLt
  simp only [zext17, BitVec.toNat_setWidth]
  omega

@[simp] theorem zeroPageAddr_toNat (zp : Byte) : (zeroPageAddr zp).toNat = zp.toNat := by
  have h := zp.isLt
  simp only [zeroPageAddr, BitVec.toNat_setWidth]
  omega

/-- The second byte address of a word access at a valid address does not wrap (20_memory.md R65, D5). -/
theorem addr_succ_toNat (a : Addr) (h : a.toNat < 65536) : (a + 1).toNat = a.toNat + 1 := by
  rw [BitVec.toNat_add]
  change (a.toNat + 1) % 131072 = a.toNat + 1
  omega

/-- The one invalid address a word access at a valid address can form (R67). -/
theorem addr_succ_top (a : Addr) (h : a.toNat = 65535) : a + 1 = 0x10000 := by
  apply BitVec.eq_of_toNat_eq
  rw [addr_succ_toNat a (by omega), h]
  rfl

/-- A register is at 0xFFFF exactly when the next byte address is 0x10000. -/
theorem word_eq_top_iff (w : Word) : w = 0xFFFF ↔ w.toNat = 65535 := by
  constructor
  · rintro rfl
    rfl
  · intro h
    exact BitVec.eq_of_toNat_eq h

/-- An increment of a register that is not at 0xFFFF does not wrap (10_state.md R24, R25). -/
theorem word_succ_toNat (w : Word) (h : w ≠ 0xFFFF) : (w + 1).toNat = w.toNat + 1 := by
  have h' : w.toNat ≠ 65535 := fun e => h ((word_eq_top_iff w).2 e)
  have hw := w.isLt
  rw [BitVec.toNat_add]
  change (w.toNat + 1) % 65536 = w.toNat + 1
  omega

end Sys2Proof.Laws
end

