-- ==== Sys2Proof/Laws/Memory.lean ====
section
/-! SUPPORT. Memory: reading after writing, what each primitive answers, and that every operation keeps the canonical
form. -/

namespace Sys2Proof.Laws

open Sys2Proof.Machine

@[simp] theorem read_nil (k : Nat) : Memory.read [] k = 0 := rfl

theorem read_erase (m : Memory) (a k : Nat) : (Memory.erase m a).read k = if k = a then 0 else m.read k := by
  induction m with
  | nil => simp [Memory.erase]
  | cons cell m ih =>
    obtain ⟨j, v⟩ := cell
    simp only [Memory.erase, List.filter_cons, bne_iff_ne, ne_eq] at ih ⊢
    by_cases hj : j = a <;> by_cases hk : k = a <;> by_cases hjk : j = k <;>
      simp_all [Memory.read]

theorem read_insert (m : Memory) (a k : Nat) (b : Byte) (h : m.read a = 0 ∧ ∀ cell ∈ m, cell.1 ≠ a) :
    (Memory.insert m a b).read k = if k = a then b else m.read k := by
  obtain ⟨-, h⟩ := h
  induction m with
  | nil => simp [Memory.insert, Memory.read, eq_comm]
  | cons cell m ih =>
    obtain ⟨j, v⟩ := cell
    have hj : j ≠ a := h (j, v) (by simp)
    have ih := ih (fun c hc => h c (by simp [hc]))
    by_cases hlt : a < j
    · simp only [Memory.insert, hlt, if_true, Memory.read, eq_comm]
    · simp only [Memory.insert, hlt, if_false, Memory.read, ih]
      by_cases hk : j = k
      · have : k ≠ a := hk ▸ hj
        simp [hk, this]
      · simp [hk]

theorem not_mem_erase (m : Memory) (a : Nat) : ∀ cell ∈ Memory.erase m a, cell.1 ≠ a := by
  intro cell hc
  simpa [Memory.erase] using (List.mem_filter.1 hc).2

theorem mem_insert (m : Memory) (a : Nat) (b : Byte) (cell : Host.Cell) :
    cell ∈ Memory.insert m a b ↔ cell = (a, b) ∨ cell ∈ m := by
  induction m with
  | nil => simp [Memory.insert]
  | cons c m ih =>
    by_cases h : a < c.1
    · simp [Memory.insert, h]
    · simp only [Memory.insert, h, if_false, List.mem_cons, ih]
      tauto

theorem pairwise_insert (m : Memory) (a : Nat) (b : Byte) (hm : m.Pairwise fun p q => p.1 < q.1)
    (ha : ∀ cell ∈ m, cell.1 ≠ a) : (Memory.insert m a b).Pairwise fun p q => p.1 < q.1 := by
  induction m with
  | nil => simp [Memory.insert]
  | cons c m ih =>
    rw [List.pairwise_cons] at hm
    have hc : c.1 ≠ a := ha c (by simp)
    by_cases h : a < c.1
    · simp only [Memory.insert, h, if_true, List.pairwise_cons]
      refine ⟨fun q hq => ?_, hm⟩
      rcases List.mem_cons.1 hq with rfl | hq
      · exact h
      · exact h.trans (hm.1 q hq)
    · simp only [Memory.insert, h, if_false, List.pairwise_cons]
      refine ⟨fun q hq => ?_, ih hm.2 fun q hq => ha q (by simp [hq])⟩
      rcases (mem_insert m a b q).1 hq with rfl | hq
      · change c.1 < a
        omega
      · exact hm.1 q hq

theorem wf_nil : Memory.wf [] := by decide

theorem wf_erase (m : Memory) (a : Nat) (h : m.wf) : (Memory.erase m a).wf :=
  ⟨h.1.filter _, fun cell hc => h.2 cell (List.mem_of_mem_filter hc)⟩

/-- Every cell write keeps the canonical form. -/
theorem wf_write (m : Memory) (a : Nat) (b : Byte) (ha : a < 65536) (h : m.wf) : (m.write a b).wf := by
  by_cases hb : b = 0
  · simpa only [Memory.write, hb, if_true] using wf_erase m a h
  · simp only [Memory.write, hb, if_false]
    have he := wf_erase m a h
    refine ⟨pairwise_insert _ a b he.1 (not_mem_erase m a), fun cell hc => ?_⟩
    rcases (mem_insert _ a b cell).1 hc with rfl | hc
    · exact ⟨ha, hb⟩
    · exact he.2 cell hc

/-- `MemRead(addr, 1)` and `MemWrite(addr, 1, v)` succeed below 65536 and fail from there on (20_memory.md R65). -/
theorem memRead1_ok (m : Memory) (addr : Addr) (h : addr.toNat < 65536) :
    memRead1 m addr = .ok (m.read addr.toNat) :=
  if_neg (Nat.not_le.2 h)

theorem memRead1_fault (m : Memory) (addr : Addr) (h : 65536 ≤ addr.toNat) :
    memRead1 m addr = .error (.outOfRange addr) :=
  if_pos h

theorem memWrite1_ok (m : Memory) (addr : Addr) (v : Byte) (h : addr.toNat < 65536) :
    memWrite1 m addr v = .ok (m.write addr.toNat v) :=
  if_neg (Nat.not_le.2 h)

theorem memWrite1_fault (m : Memory) (addr : Addr) (v : Byte) (h : 65536 ≤ addr.toNat) :
    memWrite1 m addr v = .error (.outOfRange addr) :=
  if_pos h

theorem memRead2_ok (m : Memory) (addr : Addr) (h : addr.toNat < 65535) :
    memRead2 m addr = .ok (wordOf (m.read (addr.toNat + 1)) (m.read addr.toNat)) := by
  have hs := addr_succ_toNat addr (by omega)
  have h1 := memRead1_ok m addr (by omega)
  have h2 := memRead1_ok m (addr + 1) (by omega)
  rw [hs] at h2
  unfold memRead2
  rw [h1, h2]
  rfl

/-- A word read at 0xFFFF raises the fault with 0x10000 (R65, R67). -/
theorem memRead2_top (m : Memory) (addr : Addr) (h : addr.toNat = 65535) :
    memRead2 m addr = .error (.outOfRange 0x10000) := by
  have hs := addr_succ_toNat addr (by omega)
  have h1 := memRead1_ok m addr (by omega)
  have h2 := memRead1_fault m (addr + 1) (by omega)
  unfold memRead2
  rw [h1, h2, addr_succ_top addr h]
  rfl

theorem memRead2_fault (m : Memory) (addr : Addr) (h : 65536 ≤ addr.toNat) :
    memRead2 m addr = .error (.outOfRange addr) := by
  unfold memRead2
  rw [memRead1_fault m addr h]
  rfl

theorem memWrite2_ok (m : Memory) (addr : Addr) (v : Word) (h : addr.toNat < 65535) :
    memWrite2 m addr v =
      .ok ((m.write addr.toNat (lowByte v)).write (addr.toNat + 1) (highByte v)) := by
  have hs := addr_succ_toNat addr (by omega)
  unfold memWrite2 Config.memSize
  rw [hs, if_neg (by omega), if_neg (by omega)]

/-- A word write at 0xFFFF raises the fault with 0x10000 and answers no memory (R64, R65, D6). -/
theorem memWrite2_top (m : Memory) (addr : Addr) (v : Word) (h : addr.toNat = 65535) :
    memWrite2 m addr v = .error (.outOfRange 0x10000) := by
  have hs := addr_succ_toNat addr (by omega)
  unfold memWrite2 Config.memSize
  rw [if_neg (by omega), if_pos (by omega), addr_succ_top addr h]

theorem memWrite2_fault (m : Memory) (addr : Addr) (v : Word) (h : 65536 ≤ addr.toNat) :
    memWrite2 m addr v = .error (.outOfRange addr) :=
  if_pos h

/-- Every memory primitive that answers a memory keeps the canonical form. -/
theorem wf_memWrite1 (m m' : Memory) (addr : Addr) (v : Byte) (h : m.wf) (e : memWrite1 m addr v = .ok m') : m'.wf := by
  by_cases ha : addr.toNat < 65536
  · rw [memWrite1_ok m addr v ha] at e
    cases e
    exact wf_write m _ v ha h
  · rw [memWrite1_fault m addr v (by omega)] at e
    cases e

theorem wf_memWrite2 (m m' : Memory) (addr : Addr) (v : Word) (h : m.wf) (e : memWrite2 m addr v = .ok m') : m'.wf := by
  by_cases ha : addr.toNat < 65535
  · rw [memWrite2_ok m addr v ha] at e
    cases e
    exact wf_write _ _ _ (by omega) (wf_write m _ _ (by omega) h)
  · by_cases hb : addr.toNat = 65535
    · rw [memWrite2_top m addr v hb] at e
      cases e
    · rw [memWrite2_fault m addr v (by omega)] at e
      cases e

/-- Placing bytes keeps the canonical form (`State.withFetchWord`). -/
theorem wf_placeBytes (m : Memory) (a : Word) (bytes : List Byte) (h : m.wf) : (placeBytes m a bytes).wf := by
  induction bytes generalizing m a with
  | nil => exact h
  | cons b rest ih => exact ih _ _ (wf_write m _ b a.isLt h)

end Sys2Proof.Laws
end

