-- ==== Sys2Proof/Laws/State.lean ====
section
/-! SUPPORT. One lemma per field per named update of the state, true by unfolding: proofs read a field through an update
without unfolding the record. -/

namespace Sys2Proof.Laws

open Sys2Proof.Machine

@[simp] theorem setZN_a (v : Byte) (s : State) : (setZN v s).a = s.a := rfl
@[simp] theorem setZN_x (v : Byte) (s : State) : (setZN v s).x = s.x := rfl
@[simp] theorem setZN_y (v : Byte) (s : State) : (setZN v s).y = s.y := rfl
@[simp] theorem setZN_pc (v : Byte) (s : State) : (setZN v s).pc = s.pc := rfl
@[simp] theorem setZN_sp (v : Byte) (s : State) : (setZN v s).sp = s.sp := rfl
@[simp] theorem setZN_c (v : Byte) (s : State) : (setZN v s).c = s.c := rfl
@[simp] theorem setZN_z (v : Byte) (s : State) : (setZN v s).z = zeroFlag v := rfl
@[simp] theorem setZN_i (v : Byte) (s : State) : (setZN v s).i = s.i := rfl
@[simp] theorem setZN_d (v : Byte) (s : State) : (setZN v s).d = s.d := rfl
@[simp] theorem setZN_b (v : Byte) (s : State) : (setZN v s).b = s.b := rfl
@[simp] theorem setZN_v (v : Byte) (s : State) : (setZN v s).v = s.v := rfl
@[simp] theorem setZN_n (v : Byte) (s : State) : (setZN v s).n = negativeFlag v := rfl
@[simp] theorem setZN_cyc (v : Byte) (s : State) : (setZN v s).cyc = s.cyc := rfl
@[simp] theorem setZN_mem (v : Byte) (s : State) : (setZN v s).mem = s.mem := rfl
@[simp] theorem setZN_status (v : Byte) (s : State) : (setZN v s).status = s.status := rfl
@[simp] theorem setZN_diag (v : Byte) (s : State) : (setZN v s).diag = s.diag := rfl
@[simp] theorem setZN_pending (v : Byte) (s : State) : (setZN v s).pending = s.pending := rfl
@[simp] theorem setZN_replies (v : Byte) (s : State) : (setZN v s).replies = s.replies := rfl
@[simp] theorem setZN_free (v : Byte) (s : State) : (setZN v s).free = s.free := rfl

@[simp] theorem loadA_a (v : Byte) (s : State) : (loadA v s).a = v := rfl
@[simp] theorem loadA_x (v : Byte) (s : State) : (loadA v s).x = s.x := rfl
@[simp] theorem loadA_y (v : Byte) (s : State) : (loadA v s).y = s.y := rfl
@[simp] theorem loadA_pc (v : Byte) (s : State) : (loadA v s).pc = s.pc := rfl
@[simp] theorem loadA_sp (v : Byte) (s : State) : (loadA v s).sp = s.sp := rfl
@[simp] theorem loadA_c (v : Byte) (s : State) : (loadA v s).c = s.c := rfl
@[simp] theorem loadA_z (v : Byte) (s : State) : (loadA v s).z = zeroFlag v := rfl
@[simp] theorem loadA_i (v : Byte) (s : State) : (loadA v s).i = s.i := rfl
@[simp] theorem loadA_d (v : Byte) (s : State) : (loadA v s).d = s.d := rfl
@[simp] theorem loadA_b (v : Byte) (s : State) : (loadA v s).b = s.b := rfl
@[simp] theorem loadA_v (v : Byte) (s : State) : (loadA v s).v = s.v := rfl
@[simp] theorem loadA_n (v : Byte) (s : State) : (loadA v s).n = negativeFlag v := rfl
@[simp] theorem loadA_cyc (v : Byte) (s : State) : (loadA v s).cyc = s.cyc := rfl
@[simp] theorem loadA_mem (v : Byte) (s : State) : (loadA v s).mem = s.mem := rfl
@[simp] theorem loadA_status (v : Byte) (s : State) : (loadA v s).status = s.status := rfl
@[simp] theorem loadA_diag (v : Byte) (s : State) : (loadA v s).diag = s.diag := rfl
@[simp] theorem loadA_pending (v : Byte) (s : State) : (loadA v s).pending = s.pending := rfl
@[simp] theorem loadA_replies (v : Byte) (s : State) : (loadA v s).replies = s.replies := rfl
@[simp] theorem loadA_free (v : Byte) (s : State) : (loadA v s).free = s.free := rfl

@[simp] theorem emitDiag_a (op : Byte) (p : Word) (s : State) : (emitDiag op p s).a = s.a := rfl
@[simp] theorem emitDiag_x (op : Byte) (p : Word) (s : State) : (emitDiag op p s).x = s.x := rfl
@[simp] theorem emitDiag_y (op : Byte) (p : Word) (s : State) : (emitDiag op p s).y = s.y := rfl
@[simp] theorem emitDiag_pc (op : Byte) (p : Word) (s : State) : (emitDiag op p s).pc = s.pc := rfl
@[simp] theorem emitDiag_sp (op : Byte) (p : Word) (s : State) : (emitDiag op p s).sp = s.sp := rfl
@[simp] theorem emitDiag_c (op : Byte) (p : Word) (s : State) : (emitDiag op p s).c = s.c := rfl
@[simp] theorem emitDiag_z (op : Byte) (p : Word) (s : State) : (emitDiag op p s).z = s.z := rfl
@[simp] theorem emitDiag_i (op : Byte) (p : Word) (s : State) : (emitDiag op p s).i = s.i := rfl
@[simp] theorem emitDiag_d (op : Byte) (p : Word) (s : State) : (emitDiag op p s).d = s.d := rfl
@[simp] theorem emitDiag_b (op : Byte) (p : Word) (s : State) : (emitDiag op p s).b = s.b := rfl
@[simp] theorem emitDiag_v (op : Byte) (p : Word) (s : State) : (emitDiag op p s).v = s.v := rfl
@[simp] theorem emitDiag_n (op : Byte) (p : Word) (s : State) : (emitDiag op p s).n = s.n := rfl
@[simp] theorem emitDiag_cyc (op : Byte) (p : Word) (s : State) : (emitDiag op p s).cyc = s.cyc := rfl
@[simp] theorem emitDiag_mem (op : Byte) (p : Word) (s : State) : (emitDiag op p s).mem = s.mem := rfl
@[simp] theorem emitDiag_status (op : Byte) (p : Word) (s : State) : (emitDiag op p s).status = s.status := rfl
@[simp] theorem emitDiag_diag (op : Byte) (p : Word) (s : State) : (emitDiag op p s).diag = s.diag ++ [{ opcode := op, addr := p }] := rfl
@[simp] theorem emitDiag_pending (op : Byte) (p : Word) (s : State) : (emitDiag op p s).pending = s.pending := rfl
@[simp] theorem emitDiag_replies (op : Byte) (p : Word) (s : State) : (emitDiag op p s).replies = s.replies := rfl
@[simp] theorem emitDiag_free (op : Byte) (p : Word) (s : State) : (emitDiag op p s).free = s.free := rfl

@[simp] theorem reply_a (r : HostReply) (s : State) : (reply r s).a = s.a := rfl
@[simp] theorem reply_x (r : HostReply) (s : State) : (reply r s).x = s.x := rfl
@[simp] theorem reply_y (r : HostReply) (s : State) : (reply r s).y = s.y := rfl
@[simp] theorem reply_pc (r : HostReply) (s : State) : (reply r s).pc = s.pc := rfl
@[simp] theorem reply_sp (r : HostReply) (s : State) : (reply r s).sp = s.sp := rfl
@[simp] theorem reply_c (r : HostReply) (s : State) : (reply r s).c = s.c := rfl
@[simp] theorem reply_z (r : HostReply) (s : State) : (reply r s).z = s.z := rfl
@[simp] theorem reply_i (r : HostReply) (s : State) : (reply r s).i = s.i := rfl
@[simp] theorem reply_d (r : HostReply) (s : State) : (reply r s).d = s.d := rfl
@[simp] theorem reply_b (r : HostReply) (s : State) : (reply r s).b = s.b := rfl
@[simp] theorem reply_v (r : HostReply) (s : State) : (reply r s).v = s.v := rfl
@[simp] theorem reply_n (r : HostReply) (s : State) : (reply r s).n = s.n := rfl
@[simp] theorem reply_cyc (r : HostReply) (s : State) : (reply r s).cyc = s.cyc := rfl
@[simp] theorem reply_mem (r : HostReply) (s : State) : (reply r s).mem = s.mem := rfl
@[simp] theorem reply_status (r : HostReply) (s : State) : (reply r s).status = s.status := rfl
@[simp] theorem reply_diag (r : HostReply) (s : State) : (reply r s).diag = s.diag := rfl
@[simp] theorem reply_pending (r : HostReply) (s : State) : (reply r s).pending = s.pending := rfl
@[simp] theorem reply_replies (r : HostReply) (s : State) : (reply r s).replies = s.replies ++ [r] := rfl
@[simp] theorem reply_free (r : HostReply) (s : State) : (reply r s).free = s.free := rfl

@[simp] theorem endRun_a (s : State) : (endRun s).a = s.a := rfl
@[simp] theorem endRun_x (s : State) : (endRun s).x = s.x := rfl
@[simp] theorem endRun_y (s : State) : (endRun s).y = s.y := rfl
@[simp] theorem endRun_pc (s : State) : (endRun s).pc = s.pc := rfl
@[simp] theorem endRun_sp (s : State) : (endRun s).sp = s.sp := rfl
@[simp] theorem endRun_c (s : State) : (endRun s).c = s.c := rfl
@[simp] theorem endRun_z (s : State) : (endRun s).z = s.z := rfl
@[simp] theorem endRun_i (s : State) : (endRun s).i = s.i := rfl
@[simp] theorem endRun_d (s : State) : (endRun s).d = s.d := rfl
@[simp] theorem endRun_b (s : State) : (endRun s).b = s.b := rfl
@[simp] theorem endRun_v (s : State) : (endRun s).v = s.v := rfl
@[simp] theorem endRun_n (s : State) : (endRun s).n = s.n := rfl
@[simp] theorem endRun_cyc (s : State) : (endRun s).cyc = s.cyc := rfl
@[simp] theorem endRun_mem (s : State) : (endRun s).mem = s.mem := rfl
@[simp] theorem endRun_status (s : State) : (endRun s).status = .idle := rfl
@[simp] theorem endRun_diag (s : State) : (endRun s).diag = s.diag := rfl
@[simp] theorem endRun_pending (s : State) : (endRun s).pending = s.pending := rfl
@[simp] theorem endRun_replies (s : State) : (endRun s).replies = s.replies ++ [.completed] := rfl
@[simp] theorem endRun_free (s : State) : (endRun s).free = s.free := rfl

@[simp] theorem takeOutOfRange_a (e : Addr) (s : State) : (takeOutOfRange e s).a = Config.freeByte s.free := rfl
@[simp] theorem takeOutOfRange_x (e : Addr) (s : State) : (takeOutOfRange e s).x = Config.freeByte (s.free + 1) := rfl
@[simp] theorem takeOutOfRange_y (e : Addr) (s : State) : (takeOutOfRange e s).y = Config.freeByte (s.free + 2) := rfl
@[simp] theorem takeOutOfRange_pc (e : Addr) (s : State) : (takeOutOfRange e s).pc = Config.freeWord s.free := rfl
@[simp] theorem takeOutOfRange_sp (e : Addr) (s : State) : (takeOutOfRange e s).sp = Config.freeWord (s.free + 1) := rfl
@[simp] theorem takeOutOfRange_c (e : Addr) (s : State) : (takeOutOfRange e s).c = Config.freeBit s.free := rfl
@[simp] theorem takeOutOfRange_z (e : Addr) (s : State) : (takeOutOfRange e s).z = Config.freeBit (s.free + 1) := rfl
@[simp] theorem takeOutOfRange_i (e : Addr) (s : State) : (takeOutOfRange e s).i = Config.freeBit (s.free + 2) := rfl
@[simp] theorem takeOutOfRange_d (e : Addr) (s : State) : (takeOutOfRange e s).d = Config.freeBit (s.free + 3) := rfl
@[simp] theorem takeOutOfRange_b (e : Addr) (s : State) : (takeOutOfRange e s).b = Config.freeBit (s.free + 4) := rfl
@[simp] theorem takeOutOfRange_v (e : Addr) (s : State) : (takeOutOfRange e s).v = Config.freeBit (s.free + 5) := rfl
@[simp] theorem takeOutOfRange_n (e : Addr) (s : State) : (takeOutOfRange e s).n = Config.freeBit (s.free + 6) := rfl
@[simp] theorem takeOutOfRange_cyc (e : Addr) (s : State) : (takeOutOfRange e s).cyc = Config.freeInt s.free := rfl
@[simp] theorem takeOutOfRange_mem (e : Addr) (s : State) : (takeOutOfRange e s).mem = s.mem := rfl
@[simp] theorem takeOutOfRange_status (e : Addr) (s : State) : (takeOutOfRange e s).status = .faulted e := rfl
@[simp] theorem takeOutOfRange_diag (e : Addr) (s : State) : (takeOutOfRange e s).diag = s.diag := rfl
@[simp] theorem takeOutOfRange_pending (e : Addr) (s : State) : (takeOutOfRange e s).pending = s.pending := rfl
@[simp] theorem takeOutOfRange_replies (e : Addr) (s : State) : (takeOutOfRange e s).replies = s.replies ++ [.outOfRange e] := rfl
@[simp] theorem takeOutOfRange_free (e : Addr) (s : State) : (takeOutOfRange e s).free = s.free + 7 := rfl

@[simp] theorem placeInstr_a (s : State) (bytes : List Byte) : (placeInstr s bytes).a = s.a := rfl
@[simp] theorem placeInstr_x (s : State) (bytes : List Byte) : (placeInstr s bytes).x = s.x := rfl
@[simp] theorem placeInstr_y (s : State) (bytes : List Byte) : (placeInstr s bytes).y = s.y := rfl
@[simp] theorem placeInstr_pc (s : State) (bytes : List Byte) : (placeInstr s bytes).pc = s.pc := rfl
@[simp] theorem placeInstr_sp (s : State) (bytes : List Byte) : (placeInstr s bytes).sp = s.sp := rfl
@[simp] theorem placeInstr_c (s : State) (bytes : List Byte) : (placeInstr s bytes).c = s.c := rfl
@[simp] theorem placeInstr_z (s : State) (bytes : List Byte) : (placeInstr s bytes).z = s.z := rfl
@[simp] theorem placeInstr_i (s : State) (bytes : List Byte) : (placeInstr s bytes).i = s.i := rfl
@[simp] theorem placeInstr_d (s : State) (bytes : List Byte) : (placeInstr s bytes).d = s.d := rfl
@[simp] theorem placeInstr_b (s : State) (bytes : List Byte) : (placeInstr s bytes).b = s.b := rfl
@[simp] theorem placeInstr_v (s : State) (bytes : List Byte) : (placeInstr s bytes).v = s.v := rfl
@[simp] theorem placeInstr_n (s : State) (bytes : List Byte) : (placeInstr s bytes).n = s.n := rfl
@[simp] theorem placeInstr_cyc (s : State) (bytes : List Byte) : (placeInstr s bytes).cyc = if 0 < s.cyc then s.cyc else 1 := rfl
@[simp] theorem placeInstr_mem (s : State) (bytes : List Byte) : (placeInstr s bytes).mem = placeBytes s.mem s.pc bytes := rfl
@[simp] theorem placeInstr_status (s : State) (bytes : List Byte) : (placeInstr s bytes).status = .running := rfl
@[simp] theorem placeInstr_diag (s : State) (bytes : List Byte) : (placeInstr s bytes).diag = s.diag := rfl
@[simp] theorem placeInstr_pending (s : State) (bytes : List Byte) : (placeInstr s bytes).pending = s.pending := rfl
@[simp] theorem placeInstr_replies (s : State) (bytes : List Byte) : (placeInstr s bytes).replies = s.replies := rfl
@[simp] theorem placeInstr_free (s : State) (bytes : List Byte) : (placeInstr s bytes).free = s.free := rfl

end Sys2Proof.Laws
end

