-- ==== Sys2Proof/Laws/Ops.lean ====
section
/-! SUPPORT. One lemma per shared operation of the engine: everything it can answer. Proofs cite these instead of unfolding
the operations. -/

namespace Sys2Proof.Laws

open Sys2Proof.Machine

/-- R122: `FetchByte` never faults. -/
theorem fetchByte_eq (s : State) :
    fetchByte s = .ok (s.mem.read s.pc.toNat, { s with pc := s.pc + 1, cyc := s.cyc - 1 }) := by
  have h := memRead1_ok s.mem (zext17 s.pc) (by rw [zext17_toNat]; exact s.pc.isLt)
  unfold fetchByte
  rw [h, zext17_toNat]
  rfl

/-- R123: `FetchWord` away from the top of memory. -/
theorem fetchWord_ok (s : State) (h : s.pc ≠ 0xFFFF) :
    fetchWord s = .ok (wordOf (s.mem.read (s.pc.toNat + 1)) (s.mem.read s.pc.toNat),
      { s with pc := s.pc + 2, cyc := s.cyc - 2 }) := by
  have hn : s.pc.toNat ≠ 65535 := fun e => h ((word_eq_top_iff s.pc).2 e)
  have hr := memRead2_ok s.mem (zext17 s.pc) (by rw [zext17_toNat]; have := s.pc.isLt; omega)
  unfold fetchWord
  rw [hr, zext17_toNat]
  rfl

/-- R123: `FetchWord` at PC = 0xFFFF. -/
theorem fetchWord_top (s : State) (h : s.pc = 0xFFFF) : fetchWord s = .error (.outOfRange 0x10000) := by
  have hr := memRead2_top s.mem (zext17 s.pc) (by rw [zext17_toNat]; exact (word_eq_top_iff s.pc).1 h)
  unfold fetchWord
  rw [hr]
  rfl

@[simp] theorem skipByte_eq (s : State) : skipByte s = .ok { s with pc := s.pc + 1, cyc := s.cyc - 1 } := by
  unfold skipByte
  rw [fetchByte_eq]
  rfl

theorem skipWord_ok (s : State) (h : s.pc ≠ 0xFFFF) :
    skipWord s = .ok { s with pc := s.pc + 2, cyc := s.cyc - 2 } := by
  unfold skipWord
  rw [fetchWord_ok s h]
  rfl

theorem skipWord_top (s : State) (h : s.pc = 0xFFFF) : skipWord s = .error (.outOfRange 0x10000) := by
  unfold skipWord
  rw [fetchWord_top s h]
  rfl

/-- R124: `ReadByte` below 65536. -/
theorem readByte_ok (addr : Addr) (s : State) (h : addr.toNat < 65536) :
    readByte addr s = .ok (s.mem.read addr.toNat, { s with cyc := s.cyc - 1 }) := by
  unfold readByte
  rw [memRead1_ok s.mem addr h]
  rfl

theorem readByte_fault (addr : Addr) (s : State) (h : 65536 ≤ addr.toNat) :
    readByte addr s = .error (.outOfRange addr) := by
  unfold readByte
  rw [memRead1_fault s.mem addr h]
  rfl

/-- R67, R124: a zero-page read never faults. -/
@[simp] theorem readByte_zeroPage (zp : Byte) (s : State) :
    readByte (zeroPageAddr zp) s = .ok (s.mem.read zp.toNat, { s with cyc := s.cyc - 1 }) := by
  have h := zp.isLt
  rw [readByte_ok _ s (by rw [zeroPageAddr_toNat]; omega), zeroPageAddr_toNat]

/-- R125: the word write below the top. -/
theorem writeWordCounted_ok (addr : Addr) (v : Word) (s : State) (h : addr.toNat < 65535) :
    writeWordCounted addr v s = .ok { s with
      mem := (s.mem.write addr.toNat (lowByte v)).write (addr.toNat + 1) (highByte v)
      cyc := s.cyc - 2 } := by
  unfold writeWordCounted
  rw [memWrite2_ok s.mem addr v h]
  rfl

theorem writeWordCounted_top (addr : Addr) (v : Word) (s : State) (h : addr.toNat = 65535) :
    writeWordCounted addr v s = .error (.outOfRange 0x10000) := by
  unfold writeWordCounted
  rw [memWrite2_top s.mem addr v h]
  rfl

theorem writeWordCounted_fault (addr : Addr) (v : Word) (s : State) (h : 65536 ≤ addr.toNat) :
    writeWordCounted addr v s = .error (.outOfRange addr) := by
  unfold writeWordCounted
  rw [memWrite2_fault s.mem addr v h]
  rfl

/-- R126. -/
@[simp] theorem modeImmediate_eq (v : Byte) (s : State) :
    modeImmediate v s = .ok (v, { s with pc := s.pc + 1, cyc := s.cyc - 1 }) := by
  unfold modeImmediate
  rw [skipByte_eq]
  rfl

/-- R127. -/
@[simp] theorem modeZeroPage_eq (zp : Byte) (s : State) :
    modeZeroPage zp s = .ok (zeroPageAddr zp, { s with pc := s.pc + 1, cyc := s.cyc - 1 }) := by
  unfold modeZeroPage
  rw [skipByte_eq]
  rfl

/-- R128: the mode costs two cycles. -/
@[simp] theorem modeZeroPageX_eq (zp : Byte) (s : State) :
    modeZeroPageX zp s = .ok (zeroPageAddr (zp + s.x), { s with pc := s.pc + 1, cyc := s.cyc - 1 - 1 }) := by
  unfold modeZeroPageX
  rw [skipByte_eq]
  rfl

/-- R129. -/
theorem modeAbsolute_ok (target : Word) (s : State) (h : s.pc ≠ 0xFFFF) :
    modeAbsolute target s = .ok (target, { s with pc := s.pc + 2, cyc := s.cyc - 2 }) := by
  unfold modeAbsolute
  rw [skipWord_ok s h]
  rfl

theorem modeAbsolute_top (target : Word) (s : State) (h : s.pc = 0xFFFF) :
    modeAbsolute target s = .error (.outOfRange 0x10000) := by
  unfold modeAbsolute
  rw [skipWord_top s h]
  rfl

@[simp] theorem finish_ok (s t : State) : finish s (.ok t) = .next t := rfl

@[simp] theorem finish_fault (s : State) (e : Addr) :
    finish s (.error (.outOfRange e)) = .next (takeOutOfRange e s) := rfl

/-- R170: the shared step of the unknown opcodes completes from every state. -/
@[simp] theorem unknownStep_eq (op : Byte) (s : State) :
    unknownStep op s = .next (emitDiag op s.pc { s with pc := s.pc + 1, cyc := s.cyc - 1 }) := by
  unfold unknownStep
  rw [skipByte_eq]
  rfl

end Sys2Proof.Laws
end

