-- ==== Sys2Proof/Laws/Dispatch.lean ====
section
/-! SUPPORT. The decoder and the dispatch taken together: which bytes decode, what an unknown row runs, and that fetched bytes
always decode. -/

namespace Sys2Proof.Laws

open Sys2Proof.Machine

/-- The unknown-opcode chart and the defined rows partition the 256 byte values (30_encoding.md R99, R106). -/
theorem unknownOf_isSome_iff (b : Byte) : (unknownOf b).isSome = (entryOf b).mode.casesOn true false false false false := by
  revert b
  decide

/-- Every cell of the chart holds the instruction of its own opcode byte, of operation UNK and with no operand byte.
-/
theorem unknownOf_opcode (b : Byte) (i : Instr) (h : unknownOf b = some i) :
    opcodeOf i = b ∧ isUnknown i = true ∧ operandsOf i = [] := by
  have all : ∀ b : Byte, (unknownOf b).all fun i => opcodeOf i == b && isUnknown i && (operandsOf i).isEmpty := by
    decide
  have hb := all b
  rw [h] at hb
  simpa [and_assoc, List.isEmpty_iff] using hb

/-- The name `noRow` is never answered: the decoder is total on opcode bytes (R99, R102). -/
theorem decode_ne_noRow (bytes : List Byte) (op : Byte) : decode bytes ≠ .error (.noRow op) := by
  intro h
  cases bytes with
  | nil => cases h
  | cons b rest =>
    have hs := unknownOf_isSome_iff b
    cases hm : (entryOf b).mode <;> rw [hm] at hs
    case none =>
      obtain ⟨i, hi⟩ := Option.isSome_iff_exists.1 hs
      simp [decode, hm, hi] at h
    case absolute =>
      rcases rest with _ | ⟨lo, _ | ⟨hi, rest⟩⟩ <;> simp [decode, hm] at h
    all_goals
      cases rest <;> simp [decode, hm] at h

/-- What an unknown row runs: the shared step with its own opcode byte (R170). -/
theorem exec_unknown (i : Instr) (s : State) (h : isUnknown i = true) : exec i s = unknownStep (opcodeOf i) s := by
  cases i <;> first | rfl | exact absurd h (by simp [isUnknown, entryOf, opcodeOf])

/-- The bytes a step fetches always decode to one whole instruction (R91, R99): no step is refused as undecodable. -/
theorem fetched_bytes_decode (s : State) (bytes : List Byte) (h : fetchBytes s = .ok bytes) :
    ∃ i, decode bytes = .ok (i, []) := by
  unfold fetchBytes at h
  rw [fetchByte_eq] at h
  generalize s.mem.read s.pc.toNat = op at h
  have hs := unknownOf_isSome_iff op
  simp only [bind, Except.bind, fetchByte_eq, pure, Except.pure] at h
  cases hm : (entryOf op).mode <;> rw [hm] at h hs <;> simp only at h
  case none =>
    cases h
    obtain ⟨i, hi⟩ := Option.isSome_iff_exists.1 hs
    exact ⟨i, by simp [decode, hm, hi]⟩
  case absolute =>
    split at h
    · cases h
    · cases h
      exact ⟨_, by simp [decode, hm]; rfl⟩
  all_goals
    cases h
    exact ⟨_, by simp [decode, hm]; rfl⟩

end Sys2Proof.Laws
end

