-- ==== Sys2Proof/Laws/HostTurn.lean ====
section
/-! SUPPORT. What a step can be, and what a host transaction can do: the two inversions that statements over every step
rest on. -/

namespace Sys2Proof.Laws

open Sys2Proof.Machine

/-- In a run the step is the run loop's (40_engine_loop_and_primitives.md R120). -/
theorem step_running (s : State) (h : s.status = .running) : step s = runBoundary s := by
  simp [step, h]

/-- Out of a run the step is the host's (00_scope.md R13). -/
theorem step_not_running (s : State) (h : s.status ≠ .running) : step s = hostTurn s := by
  unfold step
  split <;> simp_all

/-- Everything a host transaction can do: answer only (a read, an inspection, a failed access or a refusal); reset;
replace an idle engine's memory by one in canonical form; or begin a run. -/
theorem hostAct_cases (r : HostRequest) (s : State) :
    (∃ answer, hostAct r s = reply answer s) ∨
    (r = .reset ∧ s.status ≠ .running ∧ hostAct r s = reply .done { State.reset with
      cyc := Config.freeInt s.free, free := s.free + 1, pending := s.pending, replies := s.replies }) ∨
    (∃ answer m, s.status = .idle ∧ (s.mem.wf → m.wf) ∧ hostAct r s = reply answer { s with mem := m }) ∨
    (∃ budget, r = .run budget ∧ s.status = .idle ∧ hostAct r s = { s with status := .running, cyc := budget }) := by
  cases r with
  | reset =>
    simp only [hostAct, hostReset]
    split
    next => exact .inl ⟨_, rfl⟩
    all_goals
      next hs => exact .inr (.inl ⟨trivial, by simp [hs], rfl⟩)
  | initialise =>
    simp only [hostAct, hostInitialise]
    split
    next hs => exact .inr (.inr (.inl ⟨_, _, hs, fun _ => wf_nil, rfl⟩))
    all_goals exact .inl ⟨_, rfl⟩
  | read addr =>
    left
    simp only [hostAct, hostRead]
    repeat' split
    all_goals exact ⟨_, rfl⟩
  | write addr byte =>
    simp only [hostAct, hostWrite]
    split
    next hs =>
      split
      next m hm => exact .inr (.inr (.inl ⟨_, m, hs, fun h => wf_memWrite1 _ _ _ _ h hm, rfl⟩))
      next => exact .inl ⟨_, rfl⟩
    all_goals exact .inl ⟨_, rfl⟩
  | writeWord addr value counter =>
    simp only [hostAct, hostWriteWord]
    split
    next hs =>
      split
      next m hm => exact .inr (.inr (.inl ⟨_, m, hs, fun h => wf_memWrite2 _ _ _ _ h hm, rfl⟩))
      next => exact .inl ⟨_, rfl⟩
    all_goals exact .inl ⟨_, rfl⟩
  | run budget =>
    simp only [hostAct, hostRun]
    split
    next hs => exact .inr (.inr (.inr ⟨budget, rfl, hs, rfl⟩))
    all_goals exact .inl ⟨_, rfl⟩
  | inspect =>
    left
    simp only [hostAct, hostInspect]
    repeat' split
    all_goals exact ⟨_, rfl⟩

end Sys2Proof.Laws
end

