-- ==== Sys2Proof/Laws/PerInstr.lean ====
section
/-! SUPPORT. Statements made per instruction. The family `OperandShape`: an instruction's operand bytes are exactly as many as
the addressing mode of its opcode's entry takes (30_encoding.md R91, R102). -/

namespace Sys2Proof.Laws.OperandShape

/-- The operand bytes of `i` are well formed for the addressing mode of its opcode (R91). -/
def Statement (i : Instr) : Prop :=
  wellFormedOperands (entryOf (opcodeOf i)).mode (operandsOf i) = true

theorem ldaImm (imm8 : Byte) : Statement (.ldaImm imm8) := rfl
theorem ldaZp (zp8 : Byte) : Statement (.ldaZp zp8) := rfl
theorem ldaZpx (zp8 : Byte) : Statement (.ldaZpx zp8) := rfl
theorem jsrAbs (target : Word) : Statement (.jsrAbs target) := rfl
theorem unk00 : Statement .unk00 := rfl
theorem unk01 : Statement .unk01 := rfl
theorem unk02 : Statement .unk02 := rfl
theorem unk03 : Statement .unk03 := rfl
theorem unk04 : Statement .unk04 := rfl
theorem unk05 : Statement .unk05 := rfl
theorem unk06 : Statement .unk06 := rfl
theorem unk07 : Statement .unk07 := rfl
theorem unk08 : Statement .unk08 := rfl
theorem unk09 : Statement .unk09 := rfl
theorem unk0A : Statement .unk0A := rfl
theorem unk0B : Statement .unk0B := rfl
theorem unk0C : Statement .unk0C := rfl
theorem unk0D : Statement .unk0D := rfl
theorem unk0E : Statement .unk0E := rfl
theorem unk0F : Statement .unk0F := rfl
theorem unk10 : Statement .unk10 := rfl
theorem unk11 : Statement .unk11 := rfl
theorem unk12 : Statement .unk12 := rfl
theorem unk13 : Statement .unk13 := rfl
theorem unk14 : Statement .unk14 := rfl
theorem unk15 : Statement .unk15 := rfl
theorem unk16 : Statement .unk16 := rfl
theorem unk17 : Statement .unk17 := rfl
theorem unk18 : Statement .unk18 := rfl
theorem unk19 : Statement .unk19 := rfl
theorem unk1A : Statement .unk1A := rfl
theorem unk1B : Statement .unk1B := rfl
theorem unk1C : Statement .unk1C := rfl
theorem unk1D : Statement .unk1D := rfl
theorem unk1E : Statement .unk1E := rfl
theorem unk1F : Statement .unk1F := rfl
theorem unk21 : Statement .unk21 := rfl
theorem unk22 : Statement .unk22 := rfl
theorem unk23 : Statement .unk23 := rfl
theorem unk24 : Statement .unk24 := rfl
theorem unk25 : Statement .unk25 := rfl
theorem unk26 : Statement .unk26 := rfl
theorem unk27 : Statement .unk27 := rfl
theorem unk28 : Statement .unk28 := rfl
theorem unk29 : Statement .unk29 := rfl
theorem unk2A : Statement .unk2A := rfl
theorem unk2B : Statement .unk2B := rfl
theorem unk2C : Statement .unk2C := rfl
theorem unk2D : Statement .unk2D := rfl
theorem unk2E : Statement .unk2E := rfl
theorem unk2F : Statement .unk2F := rfl
theorem unk30 : Statement .unk30 := rfl
theorem unk31 : Statement .unk31 := rfl
theorem unk32 : Statement .unk32 := rfl
theorem unk33 : Statement .unk33 := rfl
theorem unk34 : Statement .unk34 := rfl
theorem unk35 : Statement .unk35 := rfl
theorem unk36 : Statement .unk36 := rfl
theorem unk37 : Statement .unk37 := rfl
theorem unk38 : Statement .unk38 := rfl
theorem unk39 : Statement .unk39 := rfl
theorem unk3A : Statement .unk3A := rfl
theorem unk3B : Statement .unk3B := rfl
theorem unk3C : Statement .unk3C := rfl
theorem unk3D : Statement .unk3D := rfl
theorem unk3E : Statement .unk3E := rfl
theorem unk3F : Statement .unk3F := rfl
theorem unk40 : Statement .unk40 := rfl
theorem unk41 : Statement .unk41 := rfl
theorem unk42 : Statement .unk42 := rfl
theorem unk43 : Statement .unk43 := rfl
theorem unk44 : Statement .unk44 := rfl
theorem unk45 : Statement .unk45 := rfl
theorem unk46 : Statement .unk46 := rfl
theorem unk47 : Statement .unk47 := rfl
theorem unk48 : Statement .unk48 := rfl
theorem unk49 : Statement .unk49 := rfl
theorem unk4A : Statement .unk4A := rfl
theorem unk4B : Statement .unk4B := rfl
theorem unk4C : Statement .unk4C := rfl
theorem unk4D : Statement .unk4D := rfl
theorem unk4E : Statement .unk4E := rfl
theorem unk4F : Statement .unk4F := rfl
theorem unk50 : Statement .unk50 := rfl
theorem unk51 : Statement .unk51 := rfl
theorem unk52 : Statement .unk52 := rfl
theorem unk53 : Statement .unk53 := rfl
theorem unk54 : Statement .unk54 := rfl
theorem unk55 : Statement .unk55 := rfl
theorem unk56 : Statement .unk56 := rfl
theorem unk57 : Statement .unk57 := rfl
theorem unk58 : Statement .unk58 := rfl
theorem unk59 : Statement .unk59 := rfl
theorem unk5A : Statement .unk5A := rfl
theorem unk5B : Statement .unk5B := rfl
theorem unk5C : Statement .unk5C := rfl
theorem unk5D : Statement .unk5D := rfl
theorem unk5E : Statement .unk5E := rfl
theorem unk5F : Statement .unk5F := rfl
theorem unk60 : Statement .unk60 := rfl
theorem unk61 : Statement .unk61 := rfl
theorem unk62 : Statement .unk62 := rfl
theorem unk63 : Statement .unk63 := rfl
theorem unk64 : Statement .unk64 := rfl
theorem unk65 : Statement .unk65 := rfl
theorem unk66 : Statement .unk66 := rfl
theorem unk67 : Statement .unk67 := rfl
theorem unk68 : Statement .unk68 := rfl
theorem unk69 : Statement .unk69 := rfl
theorem unk6A : Statement .unk6A := rfl
theorem unk6B : Statement .unk6B := rfl
theorem unk6C : Statement .unk6C := rfl
theorem unk6D : Statement .unk6D := rfl
theorem unk6E : Statement .unk6E := rfl
theorem unk6F : Statement .unk6F := rfl
theorem unk70 : Statement .unk70 := rfl
theorem unk71 : Statement .unk71 := rfl
theorem unk72 : Statement .unk72 := rfl
theorem unk73 : Statement .unk73 := rfl
theorem unk74 : Statement .unk74 := rfl
theorem unk75 : Statement .unk75 := rfl
theorem unk76 : Statement .unk76 := rfl
theorem unk77 : Statement .unk77 := rfl
theorem unk78 : Statement .unk78 := rfl
theorem unk79 : Statement .unk79 := rfl
theorem unk7A : Statement .unk7A := rfl
theorem unk7B : Statement .unk7B := rfl
theorem unk7C : Statement .unk7C := rfl
theorem unk7D : Statement .unk7D := rfl
theorem unk7E : Statement .unk7E := rfl
theorem unk7F : Statement .unk7F := rfl
theorem unk80 : Statement .unk80 := rfl
theorem unk81 : Statement .unk81 := rfl
theorem unk82 : Statement .unk82 := rfl
theorem unk83 : Statement .unk83 := rfl
theorem unk84 : Statement .unk84 := rfl
theorem unk85 : Statement .unk85 := rfl
theorem unk86 : Statement .unk86 := rfl
theorem unk87 : Statement .unk87 := rfl
theorem unk88 : Statement .unk88 := rfl
theorem unk89 : Statement .unk89 := rfl
theorem unk8A : Statement .unk8A := rfl
theorem unk8B : Statement .unk8B := rfl
theorem unk8C : Statement .unk8C := rfl
theorem unk8D : Statement .unk8D := rfl
theorem unk8E : Statement .unk8E := rfl
theorem unk8F : Statement .unk8F := rfl
theorem unk90 : Statement .unk90 := rfl
theorem unk91 : Statement .unk91 := rfl
theorem unk92 : Statement .unk92 := rfl
theorem unk93 : Statement .unk93 := rfl
theorem unk94 : Statement .unk94 := rfl
theorem unk95 : Statement .unk95 := rfl
theorem unk96 : Statement .unk96 := rfl
theorem unk97 : Statement .unk97 := rfl
theorem unk98 : Statement .unk98 := rfl
theorem unk99 : Statement .unk99 := rfl
theorem unk9A : Statement .unk9A := rfl
theorem unk9B : Statement .unk9B := rfl
theorem unk9C : Statement .unk9C := rfl
theorem unk9D : Statement .unk9D := rfl
theorem unk9E : Statement .unk9E := rfl
theorem unk9F : Statement .unk9F := rfl
theorem unkA0 : Statement .unkA0 := rfl
theorem unkA1 : Statement .unkA1 := rfl
theorem unkA2 : Statement .unkA2 := rfl
theorem unkA3 : Statement .unkA3 := rfl
theorem unkA4 : Statement .unkA4 := rfl
theorem unkA6 : Statement .unkA6 := rfl
theorem unkA7 : Statement .unkA7 := rfl
theorem unkA8 : Statement .unkA8 := rfl
theorem unkAA : Statement .unkAA := rfl
theorem unkAB : Statement .unkAB := rfl
theorem unkAC : Statement .unkAC := rfl
theorem unkAD : Statement .unkAD := rfl
theorem unkAE : Statement .unkAE := rfl
theorem unkAF : Statement .unkAF := rfl
theorem unkB0 : Statement .unkB0 := rfl
theorem unkB1 : Statement .unkB1 := rfl
theorem unkB2 : Statement .unkB2 := rfl
theorem unkB3 : Statement .unkB3 := rfl
theorem unkB4 : Statement .unkB4 := rfl
theorem unkB6 : Statement .unkB6 := rfl
theorem unkB7 : Statement .unkB7 := rfl
theorem unkB8 : Statement .unkB8 := rfl
theorem unkB9 : Statement .unkB9 := rfl
theorem unkBA : Statement .unkBA := rfl
theorem unkBB : Statement .unkBB := rfl
theorem unkBC : Statement .unkBC := rfl
theorem unkBD : Statement .unkBD := rfl
theorem unkBE : Statement .unkBE := rfl
theorem unkBF : Statement .unkBF := rfl
theorem unkC0 : Statement .unkC0 := rfl
theorem unkC1 : Statement .unkC1 := rfl
theorem unkC2 : Statement .unkC2 := rfl
theorem unkC3 : Statement .unkC3 := rfl
theorem unkC4 : Statement .unkC4 := rfl
theorem unkC5 : Statement .unkC5 := rfl
theorem unkC6 : Statement .unkC6 := rfl
theorem unkC7 : Statement .unkC7 := rfl
theorem unkC8 : Statement .unkC8 := rfl
theorem unkC9 : Statement .unkC9 := rfl
theorem unkCA : Statement .unkCA := rfl
theorem unkCB : Statement .unkCB := rfl
theorem unkCC : Statement .unkCC := rfl
theorem unkCD : Statement .unkCD := rfl
theorem unkCE : Statement .unkCE := rfl
theorem unkCF : Statement .unkCF := rfl
theorem unkD0 : Statement .unkD0 := rfl
theorem unkD1 : Statement .unkD1 := rfl
theorem unkD2 : Statement .unkD2 := rfl
theorem unkD3 : Statement .unkD3 := rfl
theorem unkD4 : Statement .unkD4 := rfl
theorem unkD5 : Statement .unkD5 := rfl
theorem unkD6 : Statement .unkD6 := rfl
theorem unkD7 : Statement .unkD7 := rfl
theorem unkD8 : Statement .unkD8 := rfl
theorem unkD9 : Statement .unkD9 := rfl
theorem unkDA : Statement .unkDA := rfl
theorem unkDB : Statement .unkDB := rfl
theorem unkDC : Statement .unkDC := rfl
theorem unkDD : Statement .unkDD := rfl
theorem unkDE : Statement .unkDE := rfl
theorem unkDF : Statement .unkDF := rfl
theorem unkE0 : Statement .unkE0 := rfl
theorem unkE1 : Statement .unkE1 := rfl
theorem unkE2 : Statement .unkE2 := rfl
theorem unkE3 : Statement .unkE3 := rfl
theorem unkE4 : Statement .unkE4 := rfl
theorem unkE5 : Statement .unkE5 := rfl
theorem unkE6 : Statement .unkE6 := rfl
theorem unkE7 : Statement .unkE7 := rfl
theorem unkE8 : Statement .unkE8 := rfl
theorem unkE9 : Statement .unkE9 := rfl
theorem unkEA : Statement .unkEA := rfl
theorem unkEB : Statement .unkEB := rfl
theorem unkEC : Statement .unkEC := rfl
theorem unkED : Statement .unkED := rfl
theorem unkEE : Statement .unkEE := rfl
theorem unkEF : Statement .unkEF := rfl
theorem unkF0 : Statement .unkF0 := rfl
theorem unkF1 : Statement .unkF1 := rfl
theorem unkF2 : Statement .unkF2 := rfl
theorem unkF3 : Statement .unkF3 := rfl
theorem unkF4 : Statement .unkF4 := rfl
theorem unkF5 : Statement .unkF5 := rfl
theorem unkF6 : Statement .unkF6 := rfl
theorem unkF7 : Statement .unkF7 := rfl
theorem unkF8 : Statement .unkF8 := rfl
theorem unkF9 : Statement .unkF9 := rfl
theorem unkFA : Statement .unkFA := rfl
theorem unkFB : Statement .unkFB := rfl
theorem unkFC : Statement .unkFC := rfl
theorem unkFD : Statement .unkFD := rfl
theorem unkFE : Statement .unkFE := rfl
theorem unkFF : Statement .unkFF := rfl

end Sys2Proof.Laws.OperandShape
end

