-- ==== Sys2Proof/Tests/Slice0.lean ====
section
/-! SUPPORT. The model's own tests. Expected results are the spec's: 95_test_vectors.md (ids in the comments) and the
encodings of 30_encoding.md. Each is about one step on a small state; the witnesses at the end show a concrete state that
meets the hypotheses of each statement that has some. -/

namespace Sys2Proof.Tests

open Sys2Proof.Machine

/-! Well-formedness: one ill-formed operand list for each clause of R91 is refused, and the right one taken. -/

theorem test_wf_unknown : wellFormedOperands .none [0x00] = false ∧ wellFormedOperands .none [] = true := by decide
theorem test_wf_immediate :
    wellFormedOperands .immediate [] = false ∧ wellFormedOperands .immediate [0x00] = true := by decide
theorem test_wf_zeroPage :
    wellFormedOperands .zeroPage [0x00, 0x00] = false ∧ wellFormedOperands .zeroPage [0xFF] = true := by decide
theorem test_wf_zeroPageX :
    wellFormedOperands .zeroPageX [] = false ∧ wellFormedOperands .zeroPageX [0xFF] = true := by decide
theorem test_wf_absolute :
    wellFormedOperands .absolute [0x34] = false ∧ wellFormedOperands .absolute [0x34, 0x12] = true := by decide

/-! Decoding: words written out from the encodings of R92 to R96, the vectors of 2.6, and rejections by name. -/

theorem test_decode_ldaImm : decode [0b10101001, 0x84, 0xEE] = .ok (.ldaImm 0x84, [0xEE]) := by rfl
theorem test_decode_ldaZp : decode [0b10100101, 0x42] = .ok (.ldaZp 0x42, []) := by rfl
theorem test_decode_ldaZpx : decode [0b10110101, 0x05] = .ok (.ldaZpx 0x05, []) := by rfl
theorem test_decode_jsrAbs : decode [0b00100000, 0x34, 0x12] = .ok (.jsrAbs 0x1234, []) := by rfl
/-- 2.6: the neighbours of the defined bytes are unknown opcodes. -/
theorem test_decode_neighbours :
    [0x1F, 0x21, 0xA4, 0xA6, 0xA8, 0xAA, 0xB4, 0xB6].map unknownOf =
      [some .unk1F, some .unk21, some .unkA4, some .unkA6, some .unkA8, some .unkAA, some .unkB4, some .unkB6] := by
  decide
/-- R99: every byte but the four is the unknown opcode of its own byte (32 + 132 + 3 + 11 + 74 = 252 of them). -/
theorem test_decode_every_unknown : ∀ b : Byte,
    if b = 0x20 ∨ b = 0xA5 ∨ b = 0xA9 ∨ b = 0xB5 then unknownOf b = none
    else (unknownOf b).map opcodeOf = some b := by decide
/-- R99: 252 in all, row by row of the chart: one byte is defined in row 2, two in row A, one in row B. -/
theorem test_unknown_count : unknownMap.map (fun row => row.countP Option.isSome) =
    [16, 16, 15, 16, 16, 16, 16, 16, 16, 16, 14, 15, 16, 16, 16, 16] := by decide
theorem test_decode_rejects_by_name :
    decode [] = .error .noOpcode ∧ decode [0xA9] = .error (.truncated 0xA9) ∧
    decode [0x20, 0x34] = .error (.truncated 0x20) := ⟨rfl, rfl, rfl⟩
/-- The opcode table's numbering: the first byte is the least significant. -/
theorem test_decodeTableWord :
    decodeTableWord 16 0x84A9 = some (.ldaImm 0x84) ∧ decodeTableWord 24 0x123420 = some (.jsrAbs 0x1234) ∧
    decodeTableWord 8 0xEA = some .unkEA ∧ decodeTableWord 8 0xA9 = some (.ldaImm 0) := by decide

/-! One step. -/

/-- A running state: the reset state with PC, CYC and some bytes of memory set (a test preset, R43). -/
def start (pc : Word) (cyc : Int) (bytes : List (Nat × Byte)) : State :=
  { State.reset with
    pc := pc
    cyc := cyc
    status := .running
    mem := bytes.foldl (fun m cell => m.write cell.1 cell.2) [] }

/-- The outcome is a next state with the property. -/
def nextIs (o : Host.Outcome State Fault Refusal) (p : State → Bool) : Bool :=
  match o with
  | .next t => p t
  | .fault _ => false
  | .refused _ => false

/-- LI2. -/
theorem test_ldaImm_negative : nextIs (step (start 0x4242 2 [(0x4242, 0xA9), (0x4243, 0x84)])) (fun t =>
    t.a == 0x84 && !t.z && t.n && t.pc == 0x4244 && t.cyc == 0) = true := by decide
/-- LI9: PC wraps, the operand comes from 0x0000. -/
theorem test_ldaImm_wraps : nextIs (step (start 0xFFFF 2 [(0xFFFF, 0xA9), (0x0000, 0x80)])) (fun t =>
    t.a == 0x80 && !t.z && t.n && t.pc == 0x0001 && t.cyc == 0) = true := by decide
/-- LZ5: the instruction loads its own opcode byte. -/
theorem test_ldaZp_own_byte : nextIs (step (start 0x0010 3 [(0x0010, 0xA5), (0x0011, 0x10)])) (fun t =>
    t.a == 0xA5 && !t.z && t.n && t.pc == 0x0012 && t.cyc == 0) = true := by decide
/-- LZ7: a budget of 1 ends at -2. -/
theorem test_ldaZp_overshoot : nextIs (step (start 0x0200 1 [(0x0200, 0xA5), (0x0201, 0x42), (0x0042, 0x37)]))
    (fun t => t.a == 0x37 && !t.z && !t.n && t.pc == 0x0202 && t.cyc == -2) = true := by decide
/-- LX1: 0x05 + 0xFF is 0x04, not 0x104. -/
theorem test_ldaZpx_wraps : nextIs
    (step { start 0x0300 4 [(0x0300, 0xB5), (0x0301, 0x05), (0x0004, 0x9C), (0x0104, 0x11)] with x := 0xFF })
    (fun t => t.a == 0x9C && !t.z && t.n && t.pc == 0x0302 && t.cyc == 0) = true := by decide
/-- LX2: 0xFF + 0x01 is 0x00, and the zero there sets Z. -/
theorem test_ldaZpx_zero : nextIs
    (step { start 0x0300 4 [(0x0300, 0xB5), (0x0301, 0xFF), (0x0100, 0x77)] with x := 0x01, a := 0x55 })
    (fun t => t.a == 0x00 && t.z && !t.n && t.pc == 0x0302 && t.cyc == 0) = true := by decide
/-- J1. -/
theorem test_jsr_boot : nextIs (step (start 0xFFFC 6 [(0xFFFC, 0x20), (0xFFFD, 0x42), (0xFFFE, 0x42)])) (fun t =>
    t.pc == 0x4242 && t.sp == 0x0101 && t.mem.read 0x0100 == 0xFE && t.mem.read 0x0101 == 0xFF && t.cyc == 0)
    = true := by decide
/-- J8: at SP = 0xFFFF neither byte is stored. -/
theorem test_jsr_faults : nextIs
    (step { start 0x0600 6 [(0x0600, 0x20), (0x0602, 0x07), (0xFFFF, 0xAB)] with sp := 0xFFFF })
    (fun t => t.status == .faulted 0x10000 && t.mem.read 0xFFFF == 0xAB && t.replies == [.outOfRange 0x10000])
    = true := by decide
/-- J6: the third byte would lie at 0x10000. -/
theorem test_jsr_at_top : nextIs (step (start 0xFFFE 8 [(0xFFFE, 0x20), (0xFFFF, 0x34)]))
    (fun t => t.status == .faulted 0x10000 && t.mem.read 0x0100 == 0x00) = true := by decide
/-- UK1. -/
theorem test_unknown_FF : nextIs (step (start 0x0400 3 [(0x0400, 0xFF)])) (fun t =>
    t.pc == 0x0401 && t.cyc == 2 && t.diag == [{ opcode := 0xFF, addr := 0x0400 }]) = true := by decide
/-- UK5: there is no return instruction. -/
theorem test_unknown_60 : nextIs (step (start 0x0400 1 [(0x0400, 0x60)])) (fun t =>
    t.pc == 0x0401 && t.cyc == 0 && t.sp == 0x0100 && t.diag == [{ opcode := 0x60, addr := 0x0400 }]) = true := by
  decide
/-- The first instruction after reset, placed where `step` fetches. -/
theorem test_withFetchWord : nextIs (step (State.reset.withFetchWord 24 0x424220)) (fun t =>
    t.pc == 0x4242 && t.sp == 0x0101 && t.mem.read 0x0100 == 0xFE) = true := by decide

/-! The host's turn. -/

/-- M6: a word write at the top fails whole. -/
theorem test_host_writeWord_top : nextIs
    (step { State.reset with mem := [(0xFFFF, 0x11)], pending := [.writeWord 0xFFFF 0xBEEF 9] })
    (fun t => t.mem == [(0xFFFF, 0x11)] && t.replies == [.outOfRange 0x10000]) = true := by decide
/-- M5: low byte first, and the host's counter less 2. -/
theorem test_host_writeWord : nextIs (step { State.reset with pending := [.writeWord 0x2000 0xBEEF 9] })
    (fun t => t.mem == [(0x2000, 0xEF), (0x2001, 0xBE)] && t.replies == [.counter 7]) = true := by decide
/-- RL7 and Z3: a Run is refused in the faulted and the never-reset status. -/
theorem test_host_run_refused :
    nextIs (step { State.reset with status := .faulted 0x10000, pending := [.run 5] })
      (fun t => t.status == .faulted 0x10000 && t.replies == [.refused]) = true ∧
    nextIs (step { State.reset with status := .notReset, pending := [.run 1] })
      (fun t => t.status == .notReset && t.replies == [.refused]) = true := by decide
/-- RL2: a budget of -3 runs nothing. -/
theorem test_host_run_negative :
    nextIs (runSteps 2 { start 0x0400 0 [(0x0400, 0xA9), (0x0401, 0x01)] with status := .idle, pending := [.run (-3)] })
      (fun t => t.cyc == -3 && t.pc == 0x0400 && t.a == 0x00 && t.status == .idle) = true := by decide
/-- RL8: Reset leaves the faulted status and zeroes memory. -/
theorem test_host_reset : nextIs
    (step { State.reset with status := .faulted 0x10000, mem := [(0xFFFF, 0xAB)], sp := 0x0155, pending := [.reset] })
    (fun t => t.status == .idle && t.mem == [] && t.sp == 0x0100 && t.pc == 0xFFFC) = true := by decide

/-! Witnesses: a concrete state and operands that meet each statement's hypotheses together, clause by clause. -/

/-- The bytes of LI2 in a run. -/
def ldaState : State := start 0x4242 2 [(0x4242, 0xA9), (0x4243, 0x84)]
/-- The bytes of J2 in a run. -/
def jsrState : State := start 0x0600 12 [(0x0600, 0x20), (0x0602, 0x07)]
/-- An idle state with something in memory. -/
def idleState (q : List HostRequest) : State := { ldaState with status := .idle, pending := q }
/-- The state of LI2 after its LDA. -/
def ldaDone : State := { ldaState with a := 0x84, n := true, pc := 0x4244, cyc := 0 }
/-- The state of J2 after its JSR. -/
def jsrDone : State :=
  { jsrState with
    pc := 0x0700, sp := 0x0101, cyc := 6, mem := [(0x0100, 0x02), (0x0101, 0x06), (0x0600, 0x20), (0x0602, 0x07)] }
/-- An unknown opcode's state before and after. -/
def unkState : State := start 0x0400 3 [(0x0400, 0xFF)]
def unkDone : State := { unkState with pc := 0x0401, cyc := 2, diag := [{ opcode := 0xFF, addr := 0x0400 }] }

theorem exec_ldaDone : exec (.ldaImm 0x84) ldaState = .next ldaDone := by rfl
theorem exec_jsrDone : exec (.jsrAbs 0x0700) jsrState = .next jsrDone := by rfl
theorem exec_unkDone : exec .unkFF unkState = .next unkDone := by rfl

theorem witness_DecodedBytesAreTheEncoding : decode [0x20, 0x34, 0x12, 0xFF] = .ok (.jsrAbs 0x1234, [0xFF]) := by rfl
theorem witness_OpcodeByteDeterminesLength : decode (0xA5 :: [0x42, 0x00]) = .ok (.ldaZp 0x42, [0x00]) := by rfl
theorem witness_DecoderEntryOfEveryByte :
    (0x21 : Byte) ≠ 0xA9 ∧ (0x21 : Byte) ≠ 0xA5 ∧ (0x21 : Byte) ≠ 0xB5 ∧ (0x21 : Byte) ≠ 0x20 := by decide
theorem witness_ByteOrderIsLittleEndian : memWrite2 [] 0xFFFE 0x1234 = .ok [(0xFFFE, 0x34), (0xFFFF, 0x12)] := by rfl
theorem witness_EqualCellsEqualMemory :
    Memory.wf [(0x0000, 0x01), (0xFFFF, 0xAB)] ∧
    ∀ a, Memory.read [(0x0000, 0x01), (0xFFFF, 0xAB)] a = Memory.read [(0x0000, 0x01), (0xFFFF, 0xAB)] a :=
  ⟨by decide, fun _ => rfl⟩
/-- FlagRule's truth table at the boundaries of its ranges. -/
theorem witness_FlagRule_table :
    (1 ≤ (0x01 : Byte).toNat ∧ (0x01 : Byte).toNat ≤ 0x7F) ∧ (1 ≤ (0x7F : Byte).toNat ∧ (0x7F : Byte).toNat ≤ 0x7F) ∧
    0x80 ≤ (0x80 : Byte).toNat ∧ 0x80 ≤ (0xFF : Byte).toNat := by decide
/-- FlagRule, OnlyTheNamedElementsChange, CycleTotals, StorageWrittenByResetOnlyAndNeverRead (its last clause), InstructionIgnoresTheBudget,
DiagnosticsFeedNothingBack: completed instructions of a run, of each of the three operations. -/
theorem witness_completed_lda : ldaState.status = .running ∧ exec (.ldaImm 0x84) ldaState = .next ldaDone ∧
    ldaDone.status = .running ∧ (entryOf (opcodeOf (.ldaImm 0x84))).op = .lda := ⟨rfl, exec_ldaDone, rfl, rfl⟩
theorem witness_completed_jsr : jsrState.status = .running ∧ exec (.jsrAbs 0x0700) jsrState = .next jsrDone ∧
    jsrDone.status = .running ∧ (entryOf (opcodeOf (.jsrAbs 0x0700))).op = .jsr := ⟨rfl, exec_jsrDone, rfl, rfl⟩
theorem witness_completed_unk : unkState.status = .running ∧ exec .unkFF unkState = .next unkDone ∧
    unkDone.status = .running ∧ (entryOf (opcodeOf .unkFF)).op = .unk := ⟨rfl, exec_unkDone, rfl, rfl⟩
/-- StorageWrittenByResetOnlyAndNeverRead, its step clause: a step of a run, and one of the host's. -/
theorem witness_StorageWrittenByResetOnlyAndNeverRead :
    (step ldaState = .next ldaDone ∧ (ldaState.status = .running → safe ldaDone = true) ∧
      (ldaState.status ≠ .running → ldaState.pending.head? ≠ some .reset)) ∧
    (step (idleState [.initialise]) = .next (hostInitialise (idleState [])) ∧
      ((idleState [.initialise]).status ≠ .running → (idleState [.initialise]).pending.head? ≠ some .reset)) :=
  ⟨⟨by rfl, fun _ => rfl, fun h => absurd rfl h⟩, by rfl, fun _ => by decide⟩
theorem witness_CycleTotals_unknown : isDefinedOpcode 0x00 = false := by rfl
theorem witness_JsrResult : jsrState.pc ≠ 0xFFFE ∧ jsrState.sp ≠ 0xFFFF := by decide
theorem witness_JsrFaults_operand : (start 0xFFFE 8 []).pc = 0xFFFE ∧ (start 0xFFFE 8 []).sp ≠ 0xFFFF := by decide
theorem witness_JsrFaults_word :
    ({ jsrState with sp := 0xFFFF } : State).sp = 0xFFFF ∧ ({ jsrState with sp := 0xFFFF } : State).pc ≠ 0xFFFE := by decide
/-- ExactlyWhenAnInstructionFaults, its faulting side. -/
theorem witness_ExactlyWhenAnInstructionFaults :
    ({ jsrState with sp := 0xFFFF } : State).status = .running ∧
    exec (.jsrAbs 0x0700) { jsrState with sp := 0xFFFF } =
      .next (takeOutOfRange 0x10000 { jsrState with sp := 0xFFFF }) := ⟨rfl, by rfl⟩
theorem witness_UnknownOpcodeResult : isUnknown .unk00 = true ∧ isUnknown .unkFF = true := by decide
theorem witness_StepLdaImmediate :
    ldaState.status = .running ∧ 0 < ldaState.cyc ∧ ldaState.mem.read ldaState.pc.toNat = 0xA9 := by decide
theorem witness_StepLdaZeroPage :
    (start 0x0010 3 [(0x0010, 0xA5)]).status = .running ∧ 0 < (start 0x0010 3 [(0x0010, 0xA5)]).cyc ∧
    (start 0x0010 3 [(0x0010, 0xA5)]).mem.read (start 0x0010 3 [(0x0010, 0xA5)]).pc.toNat = 0xA5 := by decide
theorem witness_StepLdaZeroPageX :
    (start 0x0300 1 [(0x0300, 0xB5)]).status = .running ∧ 0 < (start 0x0300 1 [(0x0300, 0xB5)]).cyc ∧
    (start 0x0300 1 [(0x0300, 0xB5)]).mem.read (start 0x0300 1 [(0x0300, 0xB5)]).pc.toNat = 0xB5 := by decide
theorem witness_StepJsr_completes :
    jsrState.status = .running ∧ 0 < jsrState.cyc ∧ jsrState.mem.read jsrState.pc.toNat = 0x20 ∧
    ¬(jsrState.pc = 0xFFFE ∨ jsrState.sp = 0xFFFF) := by decide
theorem witness_StepJsr_faults :
    (start 0xFFFE 8 [(0xFFFE, 0x20)]).status = .running ∧ 0 < (start 0xFFFE 8 [(0xFFFE, 0x20)]).cyc ∧
    (start 0xFFFE 8 [(0xFFFE, 0x20)]).mem.read (start 0xFFFE 8 [(0xFFFE, 0x20)]).pc.toNat = 0x20 ∧
    (start 0xFFFE 8 [(0xFFFE, 0x20)]).pc = 0xFFFE := by decide
theorem witness_StepUnknownOpcode :
    unkState.status = .running ∧ 0 < unkState.cyc ∧ isDefinedOpcode (unkState.mem.read unkState.pc.toNat) = false := by decide
theorem witness_StepRunsDecodedInstruction :
    ldaState.status = .running ∧ 0 < ldaState.cyc ∧
    decode [ldaState.mem.read ldaState.pc.toNat, ldaState.mem.read (ldaState.pc + 1).toNat,
      ldaState.mem.read (ldaState.pc + 2).toNat] = .ok (.ldaImm 0x84, [0x00]) := ⟨rfl, by decide, by rfl⟩
theorem witness_HostWaitsWhileRunning :
    ldaState.status = .running ∧ step ldaState = .next ldaDone ∧ safe ldaDone = true := ⟨rfl, by rfl, rfl⟩
theorem witness_RunBeginsAndEnds_begins : (idleState [.run 1]).status = .idle ∧ (idleState [.run 1]).pending = .run 1 :: [] := by
  decide
theorem witness_RunBeginsAndEnds_refused :
    ({ idleState [.run 1] with status := .faulted 0x10000 } : State).status ≠ .idle ∧
    ({ idleState [.run 1] with status := .faulted 0x10000 } : State).status ≠ .running ∧
    ({ idleState [.run 1] with status := .faulted 0x10000 } : State).pending = .run 1 :: [] := by decide
theorem witness_RunBeginsAndEnds_ends : ldaDone.status = .running ∧ ldaDone.cyc ≤ 0 := by decide
theorem witness_NonPositiveBudgetRunsNothing :
    (idleState [.run 0]).status = .idle ∧ (idleState [.run 0]).pending = .run 0 :: [] ∧ (0 : Int) ≤ 0 := by decide
theorem witness_EveryRunEnds : jsrState.status = .running ∧ 0 < jsrState.cyc := by decide
theorem witness_BudgetOneRunsOneInstruction : (start 0x0600 1 []).status = .running ∧ (start 0x0600 1 []).cyc = 1 := by decide
theorem witness_ZeroedMemoryExecutes :
    (start 0xFFFC 6 []).status = .running ∧ ((6 : Nat) : Int) ≤ (start 0xFFFC 6 []).cyc ∧
    ∀ a, (start 0xFFFC 6 []).mem.read a = 0 := ⟨rfl, by decide, fun _ => rfl⟩
/-- P3's kind: a call to itself, so that a second call follows. -/
theorem witness_ReturnWordsOverlap :
    jsrState.status = .running ∧ callChain [0x0700] jsrState = some jsrDone ∧ 0 < [(0x0700 : Word)].length :=
  ⟨rfl, by rfl, by decide⟩
/-- P7: the stack write lands on code. -/
def landsOnCode : State := start 0xFFFC 8 [(0xFFFC, 0x20), (0xFFFE, 0x01), (0x0100, 0xA9), (0x0101, 0x55)]
theorem witness_NextFetchSeesTheStore :
    landsOnCode.status = .running ∧ 6 < landsOnCode.cyc ∧ landsOnCode.mem.read landsOnCode.pc.toNat = 0x20 ∧
    landsOnCode.pc ≠ 0xFFFE ∧ landsOnCode.sp ≠ 0xFFFF ∧
    wordOf (landsOnCode.mem.read (landsOnCode.pc + 2).toNat) (landsOnCode.mem.read (landsOnCode.pc + 1).toNat) =
      landsOnCode.sp ∧
    isDefinedOpcode (lowByte (landsOnCode.pc + 2)) = false := by decide
theorem witness_ResetFromAnyState :
    ({ idleState [.reset] with status := .notReset } : State).status ≠ .running ∧
    ({ idleState [.reset] with status := .notReset } : State).pending = .reset :: [] := by decide
theorem witness_HostInitialise :
    (idleState [.initialise]).status = .idle ∧ (idleState [.initialise]).pending = .initialise :: [] := by decide
theorem witness_HostRead_idle :
    (idleState [.read 0xFFFF]).status = .idle ∧ (idleState [.read 0xFFFF]).pending = .read 0xFFFF :: [] := by decide
theorem witness_HostRead_faulted :
    (∃ e, ({ idleState [.read 0x10000] with status := .faulted 0x10000 } : State).status = .faulted e) ∧
    ({ idleState [.read 0x10000] with status := .faulted 0x10000 } : State).pending = .read 0x10000 :: [] :=
  ⟨⟨_, rfl⟩, rfl⟩
theorem witness_HostWrite :
    (idleState [.write 0xFFFF 0xAB]).status = .idle ∧
    (idleState [.write 0xFFFF 0xAB]).pending = .write 0xFFFF 0xAB :: [] ∧ (0xFFFF : Addr).toNat < 65536 := by decide
theorem witness_HostWrite_fails :
    (idleState [.write 0x10000 0xAB]).status = .idle ∧
    (idleState [.write 0x10000 0xAB]).pending = .write 0x10000 0xAB :: [] ∧ ¬(0x10000 : Addr).toNat < 65536 := by decide
theorem witness_HostWriteWord :
    (idleState [.writeWord 0xFFFE 0x1234 9]).status = .idle ∧
    (idleState [.writeWord 0xFFFE 0x1234 9]).pending = .writeWord 0xFFFE 0x1234 9 :: [] ∧
    (0xFFFE : Addr).toNat < 65535 := by decide
theorem witness_HostWriteWord_beyond :
    (idleState [.writeWord 0x10000 0x1234 9]).status = .idle ∧
    (idleState [.writeWord 0x10000 0x1234 9]).pending = .writeWord 0x10000 0x1234 9 :: [] ∧
    ¬(0x10000 : Addr).toNat < 65535 ∧ (0x10000 : Addr).toNat ≠ 65535 := by decide
theorem witness_HostWriteWord_fails :
    (idleState [.writeWord 0xFFFF 0xBEEF 9]).status = .idle ∧
    (idleState [.writeWord 0xFFFF 0xBEEF 9]).pending = .writeWord 0xFFFF 0xBEEF 9 :: [] ∧
    ¬(0xFFFF : Addr).toNat < 65535 := by decide
/-- AfterAFault's four clauses: a faulted state with each of the four requests waiting. -/
def faultedState (q : List HostRequest) : State := { idleState q with status := .faulted 0x10000 }
theorem witness_AfterAFault :
    (faultedState [.run 5]).status = .faulted 0x10000 ∧ (faultedState [.run 5]).pending = .run 5 :: [] ∧
    (0xFFFF : Addr).toNat < 65536 ∧ (faultedState [.read 0xFFFF]).pending = .read 0xFFFF :: [] ∧
    (faultedState [.inspect]).pending = .inspect :: [] ∧ (faultedState [.reset]).pending = .reset :: [] := by decide
theorem witness_InspectReadsEveryElement :
    (idleState [.inspect]).status = .idle ∧ (idleState [.inspect]).pending = .inspect :: [] := by decide
theorem witness_NothingBeforeReset :
    ({ idleState [.run 1] with status := .notReset } : State).status = .notReset ∧ HostRequest.run 1 ≠ .reset ∧
    ({ idleState [.run 1] with status := .notReset } : State).pending = .run 1 :: [] := by decide
theorem witness_NothingMovesWithoutTheHost :
    (idleState []).status = .idle ∧ (idleState []).pending = [] ∧
    (faultedState []).status = .faulted 0x10000 ∧ (faultedState []).pending = [] := by decide
theorem witness_AStepOfARun : ldaState.status = .running := by rfl
theorem witness_StepKeepsMemoryForm : jsrState.mem.wf ∧ step jsrState = .next jsrDone := ⟨by decide, by rfl⟩
theorem witness_StepKeepsRegistersFromReset : registersFromReset jsrState ∧ step jsrState = .next jsrDone :=
  ⟨fun _ => by decide, by rfl⟩
theorem witness_StepKeepsCycBound : cycBounded jsrState ∧ step jsrState = .next jsrDone :=
  ⟨⟨(fun _ => by decide), (fun _ h => by cases h)⟩, by rfl⟩
/-- StepKeepsCycBound's last clause: a run that ends. -/
theorem witness_StepKeepsCycBound_ends :
    cycBounded ldaDone ∧ step ldaDone = .next (endRun ldaDone) ∧ ldaDone.status = .running ∧
    (endRun ldaDone).status = .idle :=
  ⟨⟨(fun _ => by decide), (fun _ h => by cases h)⟩, by rfl, rfl, rfl⟩
theorem witness_StepKeepsFaultAndDiagRecords :
    faultAddressKnown unkState ∧ diagUnknownOnly unkState ∧ step unkState = .next unkDone :=
  ⟨(fun _ h => by cases h), (fun _ h => by cases h), by rfl⟩

end Sys2Proof.Tests
end

section
/-! PROOFS. What each instruction's meaning answers, as one equation per form, and what instruction a step of a run
executes: proofs about steps cite these instead of unfolding `exec` and `runInstr`. -/

namespace Sys2Proof.Proofs

open Sys2Proof.Machine Sys2Proof.Laws

/-- The forms of the instruction set: the four defined instructions and the unknown opcodes (R98, R99). -/
theorem instr_cases (i : Instr) :
    (∃ v, i = .ldaImm v) ∨ (∃ zp, i = .ldaZp zp) ∨ (∃ zp, i = .ldaZpx zp) ∨ (∃ target, i = .jsrAbs target) ∨
    isUnknown i = true := by
  cases i with
  | ldaImm v => exact .inl ⟨v, rfl⟩
  | ldaZp zp => exact .inr (.inl ⟨zp, rfl⟩)
  | ldaZpx zp => exact .inr (.inr (.inl ⟨zp, rfl⟩))
  | jsrAbs target => exact .inr (.inr (.inr (.inl ⟨target, rfl⟩)))
  | _ => exact .inr (.inr (.inr (.inr rfl)))

/-- R150. -/
theorem exec_ldaImm (v : Byte) (s : State) :
    exec (.ldaImm v) s = .next (loadA v { s with pc := s.pc + 2, cyc := s.cyc - 2 }) := by
  change execLdaImm v s = _
  simp [execLdaImm, bind, Except.bind, pure, Except.pure, BitVec.add_assoc, Int.sub_sub]

/-- R151. -/
theorem exec_ldaZp (zp : Byte) (s : State) :
    exec (.ldaZp zp) s = .next (loadA (s.mem.read zp.toNat) { s with pc := s.pc + 2, cyc := s.cyc - 3 }) := by
  change execLdaZp zp s = _
  simp [execLdaZp, bind, Except.bind, pure, Except.pure, BitVec.add_assoc, Int.sub_sub]

/-- R152. -/
theorem exec_ldaZpx (zp : Byte) (s : State) :
    exec (.ldaZpx zp) s =
      .next (loadA (s.mem.read (zp + s.x).toNat) { s with pc := s.pc + 2, cyc := s.cyc - 4 }) := by
  change execLdaZpx zp s = _
  simp [execLdaZpx, bind, Except.bind, pure, Except.pure, BitVec.add_assoc, Int.sub_sub]

/-- R160, the fault of the target's fetch: its second byte would lie at 0x10000. -/
theorem exec_jsrAbs_fetch_fault (target : Word) (s : State) (h : s.pc = 0xFFFE) :
    exec (.jsrAbs target) s = .next (takeOutOfRange 0x10000 s) := by
  have hpc : s.pc + 1 = 0xFFFF := by rw [h]; rfl
  change execJsrAbs target s = _
  simp only [execJsrAbs, skipByte_eq, bind, Except.bind, modeAbsolute_top, hpc, finish_fault]

/-- R160, the fault of the word write: its second byte would lie at 0x10000. -/
theorem exec_jsrAbs_write_fault (target : Word) (s : State) (hpc : s.pc ≠ 0xFFFE) (h : s.sp = 0xFFFF) :
    exec (.jsrAbs target) s = .next (takeOutOfRange 0x10000 s) := by
  have hpc1 : s.pc + 1 ≠ 0xFFFF := by bv_omega
  have hsp : (zext17 s.sp).toNat = 65535 := by rw [h]; rfl
  change execJsrAbs target s = _
  simp only [execJsrAbs, skipByte_eq, bind, Except.bind, modeAbsolute_ok, ne_eq, hpc1, not_false_eq_true,
    writeWordCounted_top, hsp, finish_fault]

/-- The two faults of JSR are one: `OutOfRange(0x10000)` taken from the state before the step (R160, R182). -/
theorem exec_jsrAbs_fault (target : Word) (s : State) (h : s.pc = 0xFFFE ∨ s.sp = 0xFFFF) :
    exec (.jsrAbs target) s = .next (takeOutOfRange 0x10000 s) := by
  by_cases hpc : s.pc = 0xFFFE
  · exact exec_jsrAbs_fetch_fault target s hpc
  · exact exec_jsrAbs_write_fault target s hpc (h.resolve_left hpc)

/-- R160 away from the top of memory. -/
theorem exec_jsrAbs_ok (target : Word) (s : State) (hpc : s.pc ≠ 0xFFFE) (hsp : s.sp ≠ 0xFFFF) :
    exec (.jsrAbs target) s = .next { s with
      pc := target
      sp := s.sp + 1
      cyc := s.cyc - 6
      mem := (s.mem.write s.sp.toNat (lowByte (s.pc + 2))).write (s.sp.toNat + 1) (highByte (s.pc + 2)) } := by
  have hpc1 : s.pc + 1 ≠ 0xFFFF := by bv_omega
  have hsp1 : s.sp.toNat < 65535 := by bv_omega
  have hret : s.pc + 1 + 2 - 1 = s.pc + 2 := by bv_omega
  have hcyc : s.cyc - 1 - 2 - 2 - 1 = s.cyc - 6 := by omega
  change execJsrAbs target s = _
  simp only [execJsrAbs, skipByte_eq, bind, Except.bind, pure, Except.pure, modeAbsolute_ok, ne_eq, hpc1,
    not_false_eq_true, writeWordCounted_ok, hsp1, hret, hcyc, zext17_toNat, finish_ok]

/-- R170. -/
theorem exec_isUnknown (i : Instr) (s : State) (h : isUnknown i = true) :
    exec i s = .next (emitDiag (opcodeOf i) s.pc { s with pc := s.pc + 1, cyc := s.cyc - 1 }) := by
  rw [exec_unknown i s h, unknownStep_eq]

/-- As many bytes from `pc` as the longest instruction has, wrapping as PC does (R24, R91). -/
def codeBytes (m : Memory) (pc : Word) : List Byte :=
  [m.read pc.toNat, m.read (pc + 1).toNat, m.read (pc + 2).toNat]

/-- Three bytes always begin with a whole instruction (R91, R99). -/
theorem codeBytes_decode (m : Memory) (pc : Word) : ∃ i rest, decode (codeBytes m pc) = .ok (i, rest) := by
  have hs := unknownOf_isSome_iff (m.read pc.toNat)
  cases hm : (entryOf (m.read pc.toNat)).mode <;> rw [hm] at hs
  case none =>
    obtain ⟨i, hi⟩ := Option.isSome_iff_exists.1 hs
    exact ⟨i, _, by simp only [codeBytes, decode, hm, hi]; rfl⟩
  all_goals exact ⟨_, _, by simp only [codeBytes, decode, hm]; rfl⟩

/-- A two-byte operand is fetched as the bytes of `codeBytes` unless its second byte lies at 0x10000 (R123). -/
theorem fetchBytes_absolute_ok (s : State) (hm : (entryOf (s.mem.read s.pc.toNat)).mode = .absolute)
    (hpc : s.pc ≠ 0xFFFE) : fetchBytes s = .ok (codeBytes s.mem s.pc) := by
  have hpc1 : s.pc + 1 ≠ 0xFFFF := by bv_omega
  have hsucc : (s.pc + 1).toNat + 1 = (s.pc + 2).toNat := by bv_omega
  simp only [fetchBytes, fetchByte_eq, bind, Except.bind, hm, fetchWord_ok, ne_eq, hpc1, not_false_eq_true, pure,
    Except.pure, lowByte_wordOf, highByte_wordOf, hsucc, codeBytes]

theorem fetchBytes_absolute_top (s : State) (hm : (entryOf (s.mem.read s.pc.toNat)).mode = .absolute)
    (hpc : s.pc = 0xFFFE) : fetchBytes s = .error (.outOfRange 0x10000) := by
  have hpc1 : s.pc + 1 = 0xFFFF := by rw [hpc]; rfl
  simp only [fetchBytes, fetchByte_eq, bind, Except.bind, hm, fetchWord_top, hpc1]

/-- An engine's step is the meaning of the instruction at PC, which memory and PC alone determine (R121). -/
theorem runInstr_eq_exec (s : State) (i : Instr) (rest : List Byte)
    (h : decode (codeBytes s.mem s.pc) = .ok (i, rest)) : runInstr s = exec i s := by
  cases hm : (entryOf (s.mem.read s.pc.toNat)).mode
  case none =>
    obtain ⟨j, hj⟩ : ∃ j, unknownOf (s.mem.read s.pc.toNat) = some j := by
      simpa [hm, Option.isSome_iff_exists] using unknownOf_isSome_iff (s.mem.read s.pc.toNat)
    simp only [codeBytes, decode, hm, hj] at h
    cases h
    simp only [runInstr, fetchBytes, fetchByte_eq, bind, Except.bind, hm, pure, Except.pure, decode, hj]
  case absolute =>
    by_cases hpc : s.pc = 0xFFFE
    · obtain ⟨target, rfl⟩ : ∃ target, i = .jsrAbs target := by
        simp only [codeBytes, decode, hm, Except.ok.injEq, Prod.mk.injEq] at h
        exact ⟨_, h.1.symm⟩
      rw [exec_jsrAbs_fetch_fault target s hpc, runInstr, fetchBytes_absolute_top s hm hpc]
      rfl
    · simp only [runInstr, fetchBytes_absolute_ok s hm hpc, h]
  all_goals
    simp only [codeBytes, decode, hm] at h
    cases h
    simp only [runInstr, fetchBytes, fetchByte_eq, bind, Except.bind, hm, pure, Except.pure, decode]

/-- In a run with CYC > 0 the step is the meaning of the instruction at PC (R120, R121). -/
theorem step_eq_exec (s : State) (i : Instr) (rest : List Byte) (hrun : s.status = .running) (hcyc : 0 < s.cyc)
    (h : decode (codeBytes s.mem s.pc) = .ok (i, rest)) : step s = exec i s := by
  rw [step_running s hrun, runBoundary, if_pos hcyc, runInstr_eq_exec s i rest h]

/-- In a run with CYC at or below 0 the step ends the run (R120, R138). -/
theorem step_eq_endRun (s : State) (hrun : s.status = .running) (hcyc : s.cyc ≤ 0) : step s = .next (endRun s) := by
  rw [step_running s hrun, runBoundary, if_neg (by omega)]

/-- Between runs the step serves the host's next transaction (R13). -/
theorem step_serves (s : State) (r : HostRequest) (rest : List HostRequest) (hs : s.status ≠ .running)
    (hp : s.pending = r :: rest) : step s = .next (hostAct r { s with pending := rest }) := by
  rw [step_not_running s hs, hostTurn, hp]

end Sys2Proof.Proofs
end

section
/-! PROOFS. The scope of the host (00_scope.md): it waits inside a run, and between runs it can read every element. -/

namespace Sys2Proof.Proofs

open Sys2Proof.Machine Sys2Proof.Laws

/-- `f` answers a next state which leaves the host's requests alone, and does the same whatever the host has still to
ask. -/
def IgnoresPending (f : State → Host.Outcome State Fault Refusal) (s : State) : Prop :=
  ∃ t, f s = .next t ∧ t.pending = s.pending ∧
    ∀ q : List HostRequest, f { s with pending := q } = .next { t with pending := q }

/-- No instruction looks at what the host has still to ask (R76), not even one that faults. -/
theorem exec_ignoresPending (i : Instr) (s : State) : IgnoresPending (exec i) s := by
  obtain ⟨v, rfl⟩ | ⟨zp, rfl⟩ | ⟨zp, rfl⟩ | ⟨target, rfl⟩ | hunk := instr_cases i
  · exact ⟨_, exec_ldaImm v s, rfl, fun q => exec_ldaImm v { s with pending := q }⟩
  · exact ⟨_, exec_ldaZp zp s, rfl, fun q => exec_ldaZp zp { s with pending := q }⟩
  · exact ⟨_, exec_ldaZpx zp s, rfl, fun q => exec_ldaZpx zp { s with pending := q }⟩
  · by_cases hfault : s.pc = 0xFFFE ∨ s.sp = 0xFFFF
    · exact ⟨_, exec_jsrAbs_fault target s hfault, rfl,
        fun q => exec_jsrAbs_fault target { s with pending := q } hfault⟩
    · obtain ⟨hpc, hsp⟩ := not_or.1 hfault
      exact ⟨_, exec_jsrAbs_ok target s hpc hsp, rfl,
        fun q => exec_jsrAbs_ok target { s with pending := q } hpc hsp⟩
  · exact ⟨_, exec_isUnknown i s hunk, rfl, fun q => exec_isUnknown i { s with pending := q } hunk⟩

/-- The step of a running machine ends the run or executes the instruction at PC; neither looks at the requests. -/
theorem step_ignoresPending (s : State) (hrun : s.status = .running) : IgnoresPending step s := by
  by_cases hcyc : 0 < s.cyc
  · obtain ⟨i, rest, hi⟩ := codeBytes_decode s.mem s.pc
    obtain ⟨t, ht, hpending, hq⟩ := exec_ignoresPending i s
    exact ⟨t, by rw [step_eq_exec s i rest hrun hcyc hi, ht], hpending,
      fun q => by rw [step_eq_exec { s with pending := q } i rest hrun hcyc hi, hq q]⟩
  · have hend := Int.not_lt.1 hcyc
    exact ⟨_, step_eq_endRun s hrun hend, rfl, fun q => step_eq_endRun { s with pending := q } hrun hend⟩

/-- Settles O36: the requests are read by the host's turn alone, which is never a running machine's step. The fault's
case needs no exception, since the model's free values do not depend on the requests either. -/
theorem hostWaitsWhileRunning : Obligations.HostWaitsWhileRunning := by
  unfold Obligations.HostWaitsWhileRunning
  intro s t q hrun hstep _
  obtain ⟨u, hu, hpending, hq⟩ := step_ignoresPending s hrun
  obtain rfl : u = t := by rw [hu] at hstep; exact Host.Outcome.next.inj hstep
  exact ⟨hpending, hq q⟩

/-- R13: an idle engine answers an inspection with its snapshot, and nothing else changes. -/
theorem hostInspect_idle (s : State) (h : s.status = .idle) : hostInspect s = reply (.snapshot (snapshotOf s)) s := by
  simp only [hostInspect, h]

/-- Settles O51: the snapshot taken after the request has left the list is that of the state before it. -/
theorem inspectReadsEveryElement : Obligations.InspectReadsEveryElement := by
  unfold Obligations.InspectReadsEveryElement
  intro s rest hidle hp
  have hturn := step_serves s .inspect rest (by simp [hidle]) hp
  rw [hturn, hostAct, hostInspect_idle { s with pending := rest } hidle]
  rfl

end Sys2Proof.Proofs
end

section
/-! PROOFS. Memory in canonical form (10_state.md R35): its list is fixed by what its cells read. -/

namespace Sys2Proof.Proofs

open Sys2Proof.Machine Sys2Proof.Laws

/-- With rising addresses no earlier entry hides a listed one. -/
theorem read_of_mem (m : Memory) (cell : Host.Cell) (hm : m.Pairwise fun p q => p.1 < q.1) (hc : cell ∈ m) :
    m.read cell.1 = cell.2 := by
  induction m with
  | nil => cases hc
  | cons first rest ih =>
    obtain ⟨hlt, hrest⟩ := List.pairwise_cons.1 hm
    rcases List.mem_cons.1 hc with rfl | hc
    · exact if_pos rfl
    · have hne : first.1 ≠ cell.1 := (hlt cell hc).ne
      exact (if_neg hne).trans (ih hrest hc)

/-- A cell that does not read 0x00 is listed. -/
theorem mem_of_read_ne_zero (m : Memory) (k : Nat) (h : m.read k ≠ 0) : (k, m.read k) ∈ m := by
  induction m with
  | nil => exact absurd rfl h
  | cons first rest ih =>
    obtain ⟨j, w⟩ := first
    simp only [Memory.read] at h ⊢
    split at h
    · next hj => simp [hj]
    · next hj => simp [hj, ih h]

/-- What a memory in canonical form lists: its cells that do not read 0x00. -/
theorem mem_iff_read (m : Memory) (hm : m.wf) (cell : Host.Cell) :
    cell ∈ m ↔ cell.2 ≠ 0 ∧ m.read cell.1 = cell.2 := by
  obtain ⟨hrising, hcells⟩ := hm
  constructor
  · exact fun hc => ⟨(hcells cell hc).2, read_of_mem m cell hrising hc⟩
  · rintro ⟨hne, hread⟩
    have hlisted := mem_of_read_ne_zero m cell.1 (by rwa [hread])
    rwa [hread] at hlisted

/-- Settles O12: memories that read the same list the same cells, and rising lists of the same cells are one list. -/
theorem equalCellsEqualMemory : Obligations.EqualCellsEqualMemory := by
  unfold Obligations.EqualCellsEqualMemory
  intro m m' hm hm' hread
  have : Std.Asymm fun p q : Host.Cell => p.1 < q.1 := ⟨fun _ _ => Nat.lt_asymm⟩
  exact hm.1.eq_of_mem_iff hm'.1 fun cell => by rw [mem_iff_read m hm, mem_iff_read m' hm', hread]

end Sys2Proof.Proofs
end

section
/-! PROOFS. What an instruction reads and what it changes (10_state.md R21 to R37): its effect, as a value computed from
X, PC, SP and memory, the only elements an instruction reads. -/

namespace Sys2Proof.Proofs

open Sys2Proof.Machine Sys2Proof.Laws

/-- The effect of an instruction that completes: the byte it loads, where PC, SP and memory are left, the cycles it
takes and the records it emits. -/
structure Effect where
  load : Option Byte := none
  pc : Word
  sp : Word
  mem : Memory
  cycles : Int
  records : List DiagRecord := []

/-- The state after an effect: a loaded byte goes to A and sets Z and N (R130), and the elements an effect does not name
are left alone. -/
def Effect.apply (e : Effect) (s : State) : State :=
  { s with
    a := e.load.getD s.a
    z := (e.load.map zeroFlag).getD s.z
    n := (e.load.map negativeFlag).getD s.n
    pc := e.pc
    sp := e.sp
    mem := e.mem
    cyc := s.cyc - e.cycles
    diag := s.diag ++ e.records }

/-- The effect of each instruction where it completes (R150 to R152, R160, R170). -/
def effectOf (i : Instr) (x : Byte) (pc sp : Word) (m : Memory) : Effect :=
  match i with
  | .ldaImm v => { load := some v, pc := pc + 2, sp := sp, mem := m, cycles := 2 }
  | .ldaZp zp => { load := some (m.read zp.toNat), pc := pc + 2, sp := sp, mem := m, cycles := 3 }
  | .ldaZpx zp => { load := some (m.read (zp + x).toNat), pc := pc + 2, sp := sp, mem := m, cycles := 4 }
  | .jsrAbs target =>
    { pc := target, sp := sp + 1, cycles := 6
      mem := (m.write sp.toNat (lowByte (pc + 2))).write (sp.toNat + 1) (highByte (pc + 2)) }
  | i => { pc := pc + 1, sp := sp, mem := m, cycles := 1, records := [{ opcode := opcodeOf i, addr := pc }] }

theorem effectOf_isUnknown (i : Instr) (x : Byte) (pc sp : Word) (m : Memory) (h : isUnknown i = true) :
    effectOf i x pc sp m =
      { pc := pc + 1, sp := sp, mem := m, cycles := 1, records := [{ opcode := opcodeOf i, addr := pc }] } := by
  cases i with
  | ldaImm | ldaZp | ldaZpx | jsrAbs => cases h
  | _ => rfl

/-- The instruction is a JSR whose operand or whose word would reach 0x10000 (R160, R182). -/
def Faults (i : Instr) (pc sp : Word) : Prop := ∃ target, i = .jsrAbs target ∧ (pc = 0xFFFE ∨ sp = 0xFFFF)

theorem exec_of_faults (i : Instr) (s : State) (h : Faults i s.pc s.sp) :
    exec i s = .next (takeOutOfRange 0x10000 s) := by
  obtain ⟨target, rfl, hfault⟩ := h
  exact exec_jsrAbs_fault target s hfault

/-- An instruction that does not fault completes, with an effect that only X, PC, SP and memory determine. -/
theorem exec_of_not_faults (i : Instr) (s : State) (h : ¬ Faults i s.pc s.sp) :
    exec i s = .next ((effectOf i s.x s.pc s.sp s.mem).apply s) := by
  obtain ⟨v, rfl⟩ | ⟨zp, rfl⟩ | ⟨zp, rfl⟩ | ⟨target, rfl⟩ | hunk := instr_cases i
  · simp [exec_ldaImm, effectOf, Effect.apply, loadA, setZN]
  · simp [exec_ldaZp, effectOf, Effect.apply, loadA, setZN]
  · simp [exec_ldaZpx, effectOf, Effect.apply, loadA, setZN]
  · have hok : ¬ (s.pc = 0xFFFE ∨ s.sp = 0xFFFF) := fun hfault => h ⟨target, rfl, hfault⟩
    obtain ⟨hpc, hsp⟩ := not_or.1 hok
    simp [exec_jsrAbs_ok target s hpc hsp, effectOf, Effect.apply]
  · rw [exec_isUnknown i s hunk, effectOf_isUnknown i _ _ _ _ hunk]
    rfl

/-- An instruction that leaves the run running has completed. -/
theorem completes_of_running (i : Instr) (s t : State) (hexec : exec i s = .next t) (ht : t.status = .running) :
    ¬ Faults i s.pc s.sp ∧ t = (effectOf i s.x s.pc s.sp s.mem).apply s := by
  by_cases hfault : Faults i s.pc s.sp
  · rw [exec_of_faults i s hfault] at hexec
    cases hexec
    cases ht
  · rw [exec_of_not_faults i s hfault] at hexec
    cases hexec
    exact ⟨hfault, rfl⟩

/-- The one effect on SP: JSR's increment, which does not wrap (R25, R160). -/
theorem sp_le_effectOf (i : Instr) (x : Byte) (pc sp : Word) (m : Memory) (h : ¬ Faults i pc sp) :
    sp.toNat ≤ (effectOf i x pc sp m).sp.toNat := by
  obtain ⟨v, rfl⟩ | ⟨zp, rfl⟩ | ⟨zp, rfl⟩ | ⟨target, rfl⟩ | hunk := instr_cases i
  case inr.inr.inr.inl =>
    have hsp : sp ≠ 0xFFFF := fun e => h ⟨target, rfl, .inr e⟩
    have hsucc : (effectOf (.jsrAbs target) x pc sp m).sp.toNat = sp.toNat + 1 := word_succ_toNat sp hsp
    omega
  case inr.inr.inr.inr => rw [effectOf_isUnknown i _ _ _ _ hunk]
  all_goals exact le_rfl

/-- The one effect on memory: JSR's word, whose two cells lie below 65536 (R160). -/
theorem wf_effectOf (i : Instr) (x : Byte) (pc sp : Word) (m : Memory) (h : ¬ Faults i pc sp) (hm : m.wf) :
    (effectOf i x pc sp m).mem.wf := by
  obtain ⟨v, rfl⟩ | ⟨zp, rfl⟩ | ⟨zp, rfl⟩ | ⟨target, rfl⟩ | hunk := instr_cases i
  case inr.inr.inr.inl =>
    have hsp : sp ≠ 0xFFFF := fun e => h ⟨target, rfl, .inr e⟩
    have hsucc : sp.toNat + 1 < 65536 := word_succ_toNat sp hsp ▸ (sp + 1).isLt
    exact wf_write _ _ _ hsucc (wf_write _ _ _ sp.isLt hm)
  case inr.inr.inr.inr => rwa [effectOf_isUnknown i _ _ _ _ hunk]
  all_goals exact hm

/-- The opcode of an unknown instruction is none of the four defined bytes (R98, R99). -/
theorem isDefinedOpcode_of_isUnknown (i : Instr) (h : isUnknown i = true) : isDefinedOpcode (opcodeOf i) = false := by
  have hbyte : ∀ b : Byte, ((entryOf b).op == .unk) = true → isDefinedOpcode b = false := by decide
  exact hbyte (opcodeOf i) h

/-- Every record an instruction emits names an unknown opcode (R171). -/
theorem records_effectOf (i : Instr) (x : Byte) (pc sp : Word) (m : Memory) :
    ∀ r ∈ (effectOf i x pc sp m).records, isDefinedOpcode r.opcode = false := by
  intro r hr
  obtain ⟨v, rfl⟩ | ⟨zp, rfl⟩ | ⟨zp, rfl⟩ | ⟨target, rfl⟩ | hunk := instr_cases i
  case inr.inr.inr.inr =>
    rw [effectOf_isUnknown i _ _ _ _ hunk] at hr
    obtain rfl := List.mem_singleton.1 hr
    exact isDefinedOpcode_of_isUnknown i hunk
  all_goals cases hr

/-- The elements that an instruction's operation does not name are left alone, and JSR increments SP (R21, R25, R75,
R171). -/
theorem effectOf_frame (i : Instr) (x : Byte) (pc sp : Word) (m : Memory) :
    ((entryOf (opcodeOf i)).op ≠ .lda → (effectOf i x pc sp m).load = none) ∧
    ((entryOf (opcodeOf i)).op ≠ .jsr → (effectOf i x pc sp m).sp = sp ∧ (effectOf i x pc sp m).mem = m) ∧
    ((entryOf (opcodeOf i)).op = .jsr → (effectOf i x pc sp m).sp = sp + 1) ∧
    ((entryOf (opcodeOf i)).op ≠ .unk → (effectOf i x pc sp m).records = []) := by
  obtain ⟨v, rfl⟩ | ⟨zp, rfl⟩ | ⟨zp, rfl⟩ | ⟨target, rfl⟩ | hunk := instr_cases i
  case inr.inr.inr.inl =>
    exact ⟨fun _ => rfl, fun h => absurd rfl h, fun _ => rfl, fun _ => rfl⟩
  case inr.inr.inr.inr =>
    have hop : (entryOf (opcodeOf i)).op = .unk := by simpa [isUnknown] using hunk
    rw [effectOf_isUnknown i _ _ _ _ hunk, hop]
    exact ⟨fun _ => rfl, fun _ => ⟨rfl, rfl⟩, nofun, fun h => absurd rfl h⟩
  all_goals exact ⟨fun h => absurd rfl h, fun _ => ⟨rfl, rfl⟩, nofun, fun _ => rfl⟩

/-- Settles O30: the frame of the instruction's effect, read in the state it leads to. -/
theorem onlyTheNamedElementsChange : Obligations.OnlyTheNamedElementsChange := by
  unfold Obligations.OnlyTheNamedElementsChange
  intro i s t _ hexec ht
  obtain ⟨-, rfl⟩ := completes_of_running i s t hexec ht
  obtain ⟨hload, hkeep, hjsr, hrecords⟩ := effectOf_frame i s.x s.pc s.sp s.mem
  refine ⟨rfl, rfl, rfl, rfl, fun h => ?_, hkeep, hjsr, fun h => ?_⟩
  · simp only [Effect.apply, hload h, Option.getD_none]
  · simp only [Effect.apply, hrecords h, List.append_nil]

/-- Settles O34: CYC is not among what determines the effect, and the effect's cycles are subtracted from any count. -/
theorem instructionIgnoresTheBudget : Obligations.InstructionIgnoresTheBudget := by
  unfold Obligations.InstructionIgnoresTheBudget
  intro i s t k _ hexec ht
  obtain ⟨hok, rfl⟩ := completes_of_running i s t hexec ht
  have hcyc : k - (effectOf i s.x s.pc s.sp s.mem).cycles =
      k - (s.cyc - (s.cyc - (effectOf i s.x s.pc s.sp s.mem).cycles)) := by omega
  rw [exec_of_not_faults i { s with cyc := k } hok]
  simp only [Effect.apply, ← hcyc]

/-- Settles O35: DIAG is not among what determines the effect, and the effect's records are appended to any log. -/
theorem diagnosticsFeedNothingBack : Obligations.DiagnosticsFeedNothingBack := by
  unfold Obligations.DiagnosticsFeedNothingBack
  intro i s t log _ hexec ht
  obtain ⟨hok, rfl⟩ := completes_of_running i s t hexec ht
  exact ⟨_, rfl, exec_of_not_faults i { s with diag := log } hok⟩

end Sys2Proof.Proofs
end

section
/-! PROOFS. Everything a step of the machine can do, and the invariants of the state that every step keeps (10_state.md
R35, R37, R41). -/

namespace Sys2Proof.Proofs

open Sys2Proof.Machine Sys2Proof.Laws

/-- Where a step from `s` can lead: inside a run the end of the run, a completed instruction or the fault; between runs
a machine that holds, or one of the four things a host transaction can do. -/
inductive StepTo (s : State) : State → Prop
  | endsRun (hrun : s.status = .running) (hcyc : s.cyc ≤ 0) : StepTo s (endRun s)
  | completes (i : Instr) (hrun : s.status = .running) (hcyc : 0 < s.cyc) (hok : ¬ Faults i s.pc s.sp) :
      StepTo s ((effectOf i s.x s.pc s.sp s.mem).apply s)
  | faults (hrun : s.status = .running) (hcyc : 0 < s.cyc) : StepTo s (takeOutOfRange 0x10000 s)
  | holds (hout : s.status ≠ .running) (hp : s.pending = []) : StepTo s s
  | answers (r : HostRequest) (rest : List HostRequest) (answer : HostReply) (hout : s.status ≠ .running)
      (hp : s.pending = r :: rest) : StepTo s (reply answer { s with pending := rest })
  | resets (rest : List HostRequest) (hout : s.status ≠ .running) (hp : s.pending = .reset :: rest) :
      StepTo s (reply .done { State.reset with
        cyc := Config.freeInt s.free, free := s.free + 1, pending := rest, replies := s.replies })
  | loads (r : HostRequest) (rest : List HostRequest) (answer : HostReply) (m : Memory) (hidle : s.status = .idle)
      (hp : s.pending = r :: rest) (hm : s.mem.wf → m.wf) : StepTo s (reply answer { s with pending := rest, mem := m })
  | beginsRun (budget : Int) (rest : List HostRequest) (hidle : s.status = .idle)
      (hp : s.pending = .run budget :: rest) : StepTo s { s with pending := rest, status := .running, cyc := budget }

theorem stepTo_of_running (s t : State) (hrun : s.status = .running) (hstep : step s = .next t) : StepTo s t := by
  by_cases hcyc : 0 < s.cyc
  · obtain ⟨i, rest, hi⟩ := codeBytes_decode s.mem s.pc
    rw [step_eq_exec s i rest hrun hcyc hi] at hstep
    by_cases hfault : Faults i s.pc s.sp
    · rw [exec_of_faults i s hfault] at hstep
      cases hstep
      exact .faults hrun hcyc
    · rw [exec_of_not_faults i s hfault] at hstep
      cases hstep
      exact .completes i hrun hcyc hfault
  · have hend := Int.not_lt.1 hcyc
    rw [step_eq_endRun s hrun hend] at hstep
    cases hstep
    exact .endsRun hrun hend

/-- With nothing to serve, a step that does not stop the machine leaves it as it is (R195). -/
theorem step_holds (s t : State) (hout : s.status ≠ .running) (hp : s.pending = []) (hstep : step s = .next t) :
    t = s := by
  rw [step_not_running s hout, hostTurn, hp] at hstep
  cases hs : s.status <;> simp only [hs] at hstep <;> cases hstep <;> rfl

theorem stepTo_of_not_running (s t : State) (hout : s.status ≠ .running) (hstep : step s = .next t) : StepTo s t := by
  cases hp : s.pending with
  | nil =>
    obtain rfl := step_holds s t hout hp hstep
    exact .holds hout hp
  | cons r rest =>
    rw [step_serves s r rest hout hp] at hstep
    obtain rfl := Host.Outcome.next.inj hstep
    obtain ⟨answer, hact⟩ | ⟨rfl, -, hact⟩ | ⟨answer, m, hidle, hm, hact⟩ | ⟨budget, rfl, hidle, hact⟩ :=
      hostAct_cases r { s with pending := rest }
    · exact hact ▸ .answers r rest answer hout hp
    · exact hact ▸ .resets rest hout hp
    · exact hact ▸ .loads r rest answer m hidle hp hm
    · exact hact ▸ .beginsRun budget rest hidle hp

/-- Every next state of a step is one of those of `StepTo`. -/
theorem stepTo_of_step (s t : State) (hstep : step s = .next t) : StepTo s t := by
  by_cases hrun : s.status = .running
  · exact stepTo_of_running s t hrun hstep
  · exact stepTo_of_not_running s t hrun hstep

/-- Settles O56: memory is written by a completed instruction, by a Reset and by an idle engine's host alone, each of
which keeps the form. -/
theorem stepKeepsMemoryForm : Obligations.StepKeepsMemoryForm := by
  unfold Obligations.StepKeepsMemoryForm
  intro s t hm hstep
  cases stepTo_of_step s t hstep with
  | completes i _ _ hok => exact wf_effectOf i s.x s.pc s.sp s.mem hok hm
  | resets => exact wf_nil
  | loads _ _ _ _ _ _ hload => exact hload hm
  | endsRun | faults | holds | answers | beginsRun => exact hm

theorem registersFromReset_reset : registersFromReset State.reset := fun _ => by decide

/-- Settles O57: a completed instruction moves none of these registers but SP, upwards; a Reset gives their reset
values; after a fault nothing is claimed. -/
theorem stepKeepsRegistersFromReset : Obligations.StepKeepsRegistersFromReset := by
  unfold Obligations.StepKeepsRegistersFromReset
  intro s t hinv hstep
  cases stepTo_of_step s t hstep with
  | endsRun hrun => exact fun _ => hinv (.inr hrun)
  | completes i hrun _ hok =>
    obtain ⟨hx, hy, hc, hi, hd, hb, hv, hsp⟩ := hinv (.inr hrun)
    exact fun _ => ⟨hx, hy, hc, hi, hd, hb, hv, hsp.trans (sp_le_effectOf i s.x s.pc s.sp s.mem hok)⟩
  | faults => exact nofun
  | resets => exact registersFromReset_reset
  | loads _ _ _ _ hidle | beginsRun _ _ hidle => exact fun _ => hinv (.inl hidle)
  | holds | answers => exact hinv

/-- Settles O59: a run faults only at 0x10000, a completed instruction's records name unknown opcodes, and the host's
transactions leave an earlier fault and log alone or reset them. -/
theorem stepKeepsFaultAndDiagRecords : Obligations.StepKeepsFaultAndDiagRecords := by
  unfold Obligations.StepKeepsFaultAndDiagRecords
  intro s t hfault hdiag hstep
  cases stepTo_of_step s t hstep with
  | completes i =>
    refine ⟨hfault, fun r hr => ?_⟩
    rcases List.mem_append.1 hr with hr | hr
    · exact hdiag r hr
    · exact records_effectOf i s.x s.pc s.sp s.mem r hr
  | faults => exact ⟨fun addr h => (Status.faulted.inj h).symm, hdiag⟩
  | resets => exact ⟨nofun, nofun⟩
  | endsRun | beginsRun => exact ⟨nofun, hdiag⟩
  | holds | answers | loads => exact ⟨hfault, hdiag⟩

/-- Y, C, I, D, B and V are written by reset alone (R23, R26, R28 to R31). -/
theorem step_keeps_storage (s t : State) (hstep : step s = .next t) (hsafe : s.status = .running → safe t = true)
    (hreset : s.status ≠ .running → s.pending.head? ≠ some .reset) :
    t.y = s.y ∧ t.c = s.c ∧ t.i = s.i ∧ t.d = s.d ∧ t.b = s.b ∧ t.v = s.v := by
  cases stepTo_of_step s t hstep with
  | faults hrun => exact absurd (hsafe hrun) Bool.false_ne_true
  | resets rest hout hp => exact absurd (by rw [hp]; rfl) (hreset hout)
  | endsRun | completes | holds | answers | loads | beginsRun => exact ⟨rfl, rfl, rfl, rfl, rfl, rfl⟩

/-- Settles O33: the reset values; `step_keeps_storage`; and none of the six is among what determines an instruction's
effect. -/
theorem storageWrittenByResetOnlyAndNeverRead : Obligations.StorageWrittenByResetOnlyAndNeverRead := by
  unfold Obligations.StorageWrittenByResetOnlyAndNeverRead
  refine ⟨by decide, step_keeps_storage, ?_⟩
  intro i s t y c i' d b v _ hexec ht
  obtain ⟨hok, rfl⟩ := completes_of_running i s t hexec ht
  exact exec_of_not_faults i { s with y := y, c := c, i := i', d := d, b := b, v := v } hok

end Sys2Proof.Proofs
end

section
/-! PROOFS. The reset state (10_state.md R40), and the machine before it (R39). -/

namespace Sys2Proof.Proofs

open Sys2Proof.Machine Sys2Proof.Laws

/-- Settles O44: every value is the one written in `State.reset`; a memory that lists no cell reads 0x00. -/
theorem resetValues : Obligations.ResetValues :=
  ⟨rfl, rfl, rfl, rfl, rfl, rfl, rfl, rfl, rfl, rfl, rfl, rfl, read_nil, rfl, rfl⟩

/-- Settles O60: memory lists no cell, no transaction waits, nothing has faulted and DIAG is empty. -/
theorem resetHasTheInvariants : Obligations.ResetHasTheInvariants :=
  ⟨wf_nil, registersFromReset_reset, ⟨nofun, nofun⟩, nofun, nofun⟩

/-- R39, R213: each transaction but Reset requires a STATUS that a machine never reset does not have. -/
theorem hostAct_notReset (r : HostRequest) (s : State) (h : s.status = .notReset) (hr : r ≠ .reset) :
    hostAct r s = reply .refused s := by
  cases r with
  | reset => exact absurd rfl hr
  | initialise => simp only [hostAct, hostInitialise, h]
  | read addr => simp only [hostAct, hostRead, h]
  | write addr byte => simp only [hostAct, hostWrite, h]
  | writeWord addr value counter => simp only [hostAct, hostWriteWord, h]
  | run budget => simp only [hostAct, hostRun, h]
  | inspect => simp only [hostAct, hostInspect, h]

/-- Settles O52: the host's turn, and `hostAct_notReset`. -/
theorem nothingBeforeReset : Obligations.NothingBeforeReset := by
  unfold Obligations.NothingBeforeReset
  intro s r rest hs hr hp
  rw [step_serves s r rest (by simp [hs]) hp, hostAct_notReset r { s with pending := rest } hs hr]
  rfl

end Sys2Proof.Proofs
end

section
/-! PROOFS. Memory (20_memory.md): what the cells read after a write, the order of a word's two bytes, and the
bounds-checked primitives by the validity of each byte address. -/

namespace Sys2Proof.Proofs

open Sys2Proof.Machine Sys2Proof.Laws

/-- R63: writing 0x00 unlists the cell, writing another byte lists it anew. -/
theorem read_write (m : Memory) (a k : Nat) (v : Byte) : (m.write a v).read k = if k = a then v else m.read k := by
  by_cases hv : v = 0
  · rw [Memory.write, if_pos hv, read_erase, hv]
  · have hzero : (m.erase a).read a = 0 := by rw [read_erase, if_pos rfl]
    rw [Memory.write, if_neg hv, read_insert _ _ _ _ ⟨hzero, not_mem_erase m a⟩, read_erase]
    by_cases hk : k = a <;> simp only [hk, if_true, if_false]

/-- R68: the cells after a word is stored, its low byte at the lower address. -/
theorem read_write_word (m : Memory) (a k : Nat) (lo hi : Byte) :
    ((m.write a lo).write (a + 1) hi).read k = if k = a + 1 then hi else if k = a then lo else m.read k := by
  rw [read_write, read_write]

theorem read_write_word_low (m : Memory) (a : Nat) (lo hi : Byte) :
    ((m.write a lo).write (a + 1) hi).read a = lo := by
  rw [read_write_word, if_neg (by omega), if_pos rfl]

theorem read_write_word_high (m : Memory) (a : Nat) (lo hi : Byte) :
    ((m.write a lo).write (a + 1) hi).read (a + 1) = hi := by
  rw [read_write_word, if_pos rfl]

theorem read_write_word_other (m : Memory) (a k : Nat) (lo hi : Byte) (hlow : k ≠ a) (hhigh : k ≠ a + 1) :
    ((m.write a lo).write (a + 1) hi).read k = m.read k := by
  rw [read_write_word, if_neg hhigh, if_neg hlow]

/-- Where a word access can lie: both byte addresses valid, only the first, or not even the first (R65). -/
theorem word_access_cases (addr : Addr) :
    addr.toNat < 65535 ∨ addr.toNat = 65535 ∨ 65536 ≤ addr.toNat := by omega

/-- A word write that succeeds has both byte addresses valid, and stores low byte first (R64, R65, R68). -/
theorem of_memWrite2_ok (m m' : Memory) (addr : Addr) (v : Word) (h : memWrite2 m addr v = .ok m') :
    addr.toNat < 65535 ∧ m' = (m.write addr.toNat (lowByte v)).write (addr.toNat + 1) (highByte v) := by
  obtain hvalid | htop | hout := word_access_cases addr
  · rw [memWrite2_ok m addr v hvalid] at h
    exact ⟨hvalid, (Except.ok.inj h).symm⟩
  · rw [memWrite2_top m addr v htop] at h
    cases h
  · rw [memWrite2_fault m addr v hout] at h
    cases h

theorem memRead1_eq (m : Memory) (addr : Addr) :
    memRead1 m addr = if addr.toNat < 65536 then .ok (m.read addr.toNat) else .error (.outOfRange addr) := by
  split
  · next h => exact memRead1_ok m addr h
  · next h => exact memRead1_fault m addr (Nat.not_lt.1 h)

theorem memWrite1_eq (m : Memory) (addr : Addr) (v : Byte) :
    memWrite1 m addr v = if addr.toNat < 65536 then .ok (m.write addr.toNat v) else .error (.outOfRange addr) := by
  split
  · next h => exact memWrite1_ok m addr v h
  · next h => exact memWrite1_fault m addr v (Nat.not_lt.1 h)

theorem memRead2_eq (m : Memory) (addr : Addr) :
    memRead2 m addr =
      if 65536 ≤ addr.toNat then .error (.outOfRange addr)
      else if addr.toNat + 1 = 65536 then .error (.outOfRange 0x10000)
      else .ok (wordOf (m.read (addr.toNat + 1)) (m.read addr.toNat)) := by
  obtain h | h | h := word_access_cases addr
  · rw [memRead2_ok m addr h, if_neg (by omega), if_neg (by omega)]
  · rw [memRead2_top m addr h, if_neg (by omega), if_pos (by omega)]
  · rw [memRead2_fault m addr h, if_pos h]

theorem memWrite2_eq (m : Memory) (addr : Addr) (v : Word) :
    memWrite2 m addr v =
      if 65536 ≤ addr.toNat then .error (.outOfRange addr)
      else if addr.toNat + 1 = 65536 then .error (.outOfRange 0x10000)
      else .ok ((m.write addr.toNat (lowByte v)).write (addr.toNat + 1) (highByte v)) := by
  obtain h | h | h := word_access_cases addr
  · rw [memWrite2_ok m addr v h, if_neg (by omega), if_neg (by omega)]
  · rw [memWrite2_top m addr v h, if_neg (by omega), if_pos (by omega)]
  · rw [memWrite2_fault m addr v h, if_pos h]

/-- Settles O10: `read_write`. -/
theorem cellReadsLatestWrite : Obligations.CellReadsLatestWrite := read_write

/-- Settles O11: the two cells of the stored word are those that a word read at the same address puts together. -/
theorem byteOrderIsLittleEndian : Obligations.ByteOrderIsLittleEndian := by
  unfold Obligations.ByteOrderIsLittleEndian
  refine ⟨fun m m' addr w h => ?_, fun w => rfl⟩
  obtain ⟨hvalid, rfl⟩ := of_memWrite2_ok m m' addr w h
  have hlow := read_write_word_low m addr.toNat (lowByte w) (highByte w)
  have hhigh := read_write_word_high m addr.toNat (lowByte w) (highByte w)
  refine ⟨hlow, hhigh, ?_⟩
  rw [memRead2_ok _ addr hvalid, hlow, hhigh, wordOf_high_low]

/-- Settles O9: one equation per primitive. -/
theorem memoryPrimitives : Obligations.MemoryPrimitives := ⟨memRead1_eq, memRead2_eq, memWrite1_eq, memWrite2_eq⟩

end Sys2Proof.Proofs
end

section
/-! PROOFS. The host's access to memory between runs (20_memory.md R61 to R64): what each transaction does in a STATUS
that admits it, as one equation per outcome. -/

namespace Sys2Proof.Proofs

open Sys2Proof.Machine Sys2Proof.Laws

/-- R61. -/
theorem hostInitialise_idle (s : State) (h : s.status = .idle) : hostInitialise s = reply .done { s with mem := [] } := by
  simp only [hostInitialise, h]

/-- R62: a read changes nothing but the answers, whatever the address. -/
theorem hostRead_eq (addr : Addr) (s : State) (h : s.status = .idle ∨ ∃ e, s.status = .faulted e) :
    hostRead addr s =
      reply (if addr.toNat < 65536 then .byte (s.mem.read addr.toNat) else .outOfRange addr) s := by
  by_cases haddr : addr.toNat < 65536
  · rw [if_pos haddr]
    obtain h | ⟨e, h⟩ := h <;> simp only [hostRead, h, memRead1_ok s.mem addr haddr]
  · rw [if_neg haddr]
    obtain h | ⟨e, h⟩ := h <;> simp only [hostRead, h, memRead1_fault s.mem addr (Nat.not_lt.1 haddr)]

/-- R63 at a valid address. -/
theorem hostWrite_ok (addr : Addr) (byte : Byte) (s : State) (h : s.status = .idle) (haddr : addr.toNat < 65536) :
    hostWrite addr byte s = reply .done { s with mem := s.mem.write addr.toNat byte } := by
  simp only [hostWrite, h, memWrite1_ok s.mem addr byte haddr]

/-- R63 beyond the last cell. -/
theorem hostWrite_fails (addr : Addr) (byte : Byte) (s : State) (h : s.status = .idle) (haddr : 65536 ≤ addr.toNat) :
    hostWrite addr byte s = reply (.outOfRange addr) s := by
  simp only [hostWrite, h, memWrite1_fault s.mem addr byte haddr]

/-- R64 with both byte addresses valid: the counter is the host's own. -/
theorem hostWriteWord_ok (addr : Addr) (value : Word) (counter : Int) (s : State) (h : s.status = .idle)
    (haddr : addr.toNat < 65535) :
    hostWriteWord addr value counter s = reply (.counter (counter - 2)) { s with
      mem := (s.mem.write addr.toNat (lowByte value)).write (addr.toNat + 1) (highByte value) } := by
  simp only [hostWriteWord, h, memWrite2_ok s.mem addr value haddr]

/-- R64 with an invalid byte address: the lowest one is reported, and neither byte is stored. -/
theorem hostWriteWord_fails (addr : Addr) (value : Word) (counter : Int) (s : State) (h : s.status = .idle)
    (haddr : 65535 ≤ addr.toNat) :
    hostWriteWord addr value counter s =
      reply (.outOfRange (if addr.toNat = 65535 then 0x10000 else addr)) s := by
  by_cases htop : addr.toNat = 65535
  · simp only [hostWriteWord, h, memWrite2_top s.mem addr value htop, htop, if_true]
  · simp only [hostWriteWord, h, memWrite2_fault s.mem addr value (by omega), htop, if_false]

/-! The obligations themselves, in a namespace of their own: each has the name of the transaction it is about. -/

namespace HostMemory

/-- Settles O46: memory is left with no cell listed, as reset leaves it. -/
theorem hostInitialise : Obligations.HostInitialise := by
  unfold Obligations.HostInitialise
  intro s rest hidle hp
  refine ⟨[], ?_, fun a => ⟨read_nil a, read_nil a⟩⟩
  rw [step_serves s .initialise rest (by simp [hidle]) hp, hostAct, hostInitialise_idle { s with pending := rest } hidle]
  rfl

/-- Settles O47: the request leaves the list, and the answer is that of `memRead1`. -/
theorem hostRead : Obligations.HostRead := by
  unfold Obligations.HostRead
  intro s addr rest hs hp
  have hout : s.status ≠ .running := by obtain h | ⟨e, h⟩ := hs <;> simp [h]
  rw [step_serves s (.read addr) rest hout hp, hostAct, hostRead_eq addr { s with pending := rest } hs]
  rfl

/-- Settles O48: at a valid address the one cell written, beyond it the failing access. -/
theorem hostWrite : Obligations.HostWrite := by
  unfold Obligations.HostWrite
  intro s addr byte rest hidle hp
  rw [step_serves s (.write addr byte) rest (by simp [hidle]) hp, hostAct]
  split
  · next haddr =>
    refine ⟨_, congrArg Host.Outcome.next (hostWrite_ok addr byte { s with pending := rest } hidle haddr), ?_, fun a ha => ?_⟩
    · rw [read_write, if_pos rfl]
    · rw [read_write, if_neg ha]
  · next haddr =>
    exact congrArg Host.Outcome.next (hostWrite_fails addr byte { s with pending := rest } hidle (Nat.not_lt.1 haddr))

/-- Settles O49: with both byte addresses valid the two cells of the word, otherwise the failing access. -/
theorem hostWriteWord : Obligations.HostWriteWord := by
  unfold Obligations.HostWriteWord
  intro s addr value counter rest hidle hp
  rw [step_serves s (.writeWord addr value counter) rest (by simp [hidle]) hp, hostAct]
  split
  · next haddr =>
    exact ⟨_, congrArg Host.Outcome.next (hostWriteWord_ok addr value counter { s with pending := rest } hidle haddr),
      read_write_word_low _ _ _ _, read_write_word_high _ _ _ _, fun a => read_write_word_other _ _ a _ _⟩
  · next haddr =>
    exact congrArg Host.Outcome.next
      (hostWriteWord_fails addr value counter { s with pending := rest } hidle (Nat.not_lt.1 haddr))

end HostMemory

end Sys2Proof.Proofs
end

section
/-! PROOFS. The step of a run by the opcode byte at PC, for JSR and the unknown opcodes, and steps in a row: a store is
seen by the next fetch (20_memory.md R77, 70_reset_and_hazards.md R222). -/

namespace Sys2Proof.Proofs

open Sys2Proof.Machine Sys2Proof.Laws

/-- R95: the byte 0x20 is a JSR to the word of the two bytes after it. -/
theorem codeBytes_decode_jsr (m : Memory) (pc : Word) (h : m.read pc.toNat = 0x20) :
    decode (codeBytes m pc) = .ok (.jsrAbs (wordOf (m.read (pc + 2).toNat) (m.read (pc + 1).toNat)), []) := by
  rw [codeBytes, h]
  rfl

/-- R99: a byte that is none of the four defined opcodes is the unknown instruction of its own byte. -/
theorem codeBytes_decode_unknown (m : Memory) (pc : Word) (h : isDefinedOpcode (m.read pc.toNat) = false) :
    ∃ i rest, decode (codeBytes m pc) = .ok (i, rest) ∧ isUnknown i = true ∧ opcodeOf i = m.read pc.toNat := by
  have hmode : ∀ b : Byte, isDefinedOpcode b = false → (entryOf b).mode = .none := by decide
  have hnone := hmode (m.read pc.toNat) h
  have hsome := unknownOf_isSome_iff (m.read pc.toNat)
  rw [hnone] at hsome
  obtain ⟨i, hi⟩ := Option.isSome_iff_exists.1 hsome
  obtain ⟨hop, hunk, -⟩ := unknownOf_opcode _ i hi
  exact ⟨i, _, by simp only [codeBytes, decode, hnone, hi]; rfl, hunk, hop⟩

/-- R160, from memory: the step of a run at a JSR that does not fault. -/
theorem step_jsr (s : State) (hrun : s.status = .running) (hcyc : 0 < s.cyc) (hop : s.mem.read s.pc.toNat = 0x20)
    (hpc : s.pc ≠ 0xFFFE) (hsp : s.sp ≠ 0xFFFF) :
    step s = .next { s with
      pc := wordOf (s.mem.read (s.pc + 2).toNat) (s.mem.read (s.pc + 1).toNat)
      sp := s.sp + 1
      cyc := s.cyc - 6
      mem := (s.mem.write s.sp.toNat (lowByte (s.pc + 2))).write (s.sp.toNat + 1) (highByte (s.pc + 2)) } := by
  rw [step_eq_exec s _ _ hrun hcyc (codeBytes_decode_jsr s.mem s.pc hop), exec_jsrAbs_ok _ s hpc hsp]

/-- R170, from memory: the step of a run at an unknown opcode. -/
theorem step_unknown (s : State) (hrun : s.status = .running) (hcyc : 0 < s.cyc)
    (hop : isDefinedOpcode (s.mem.read s.pc.toNat) = false) :
    step s = .next { s with
      pc := s.pc + 1
      cyc := s.cyc - 1
      diag := s.diag ++ [{ opcode := s.mem.read s.pc.toNat, addr := s.pc }] } := by
  obtain ⟨i, rest, hi, hunk, hbyte⟩ := codeBytes_decode_unknown s.mem s.pc hop
  rw [step_eq_exec s i rest hrun hcyc hi, exec_isUnknown i s hunk, hbyte]
  rfl

theorem run_succ_of_step (M : Host.Core) (k : Nat) (s t : M.State) (h : M.step s = .next t) :
    M.run (k + 1) s = M.run k t := by
  simp only [Host.Core.run, h]

theorem runSteps_succ_of_step (k : Nat) (s t : State) (h : step s = .next t) : runSteps (k + 1) s = runSteps k t :=
  run_succ_of_step core k s t h

/-- Settles O43: the JSR's step leaves PC at the cell of the low byte it stored, which is what the next step
executes. -/
theorem nextFetchSeesTheStore : Obligations.NextFetchSeesTheStore := by
  unfold Obligations.NextFetchSeesTheStore
  intro s hrun hcyc hop hpc hsp htarget hunk
  have hcall := step_jsr s hrun (by omega) hop hpc hsp
  rw [htarget] at hcall
  have hbyte := read_write_word_low s.mem s.sp.toNat (lowByte (s.pc + 2)) (highByte (s.pc + 2))
  rw [← hbyte] at hunk ⊢
  exact ⟨_, (runSteps_succ_of_step 1 s _ hcall).trans (runSteps_succ_of_step 0 _ _
    (step_unknown _ hrun (Int.sub_pos_of_lt hcyc) hunk)), rfl, Int.sub_sub s.cyc 6 1, rfl⟩

end Sys2Proof.Proofs
end

section
/-! PROOFS. The encoding (30_encoding.md): the encoder and the decoder are inverse to each other, and what follows of an
instruction's length, its operands and the 256 opcode bytes. -/

namespace Sys2Proof.Proofs

open Sys2Proof.Machine Sys2Proof.Laws

/-! The opcode bytes. -/

theorem isDefinedOpcode_eq_false_iff (op : Byte) :
    isDefinedOpcode op = false ↔ op ≠ 0xA9 ∧ op ≠ 0xA5 ∧ op ≠ 0xB5 ∧ op ≠ 0x20 := by
  simp [isDefinedOpcode, and_assoc]

/-- R102: every byte but the four defined ones has the entry of UNK. -/
theorem entryOf_undefined (op : Byte) (h : isDefinedOpcode op = false) :
    entryOf op = { op := .unk, mode := .none, baseCycles := 1, extra := 0 } := by
  obtain ⟨hA9, hA5, hB5, h20⟩ := (isDefinedOpcode_eq_false_iff op).1 h
  rw [entryOf, if_neg hA9, if_neg hA5, if_neg hB5, if_neg h20]

theorem mode_of_isUnknown (i : Instr) (h : isUnknown i = true) : (entryOf (opcodeOf i)).mode = .none := by
  rw [entryOf_undefined _ (isDefinedOpcode_of_isUnknown i h)]

/-- R99: the chart of the unknown opcodes leaves out only the four defined bytes. -/
theorem exists_unknown_of_undefined (op : Byte) (h : isDefinedOpcode op = false) :
    ∃ i, opcodeOf i = op ∧ isUnknown i = true := by
  have hsome := unknownOf_isSome_iff op
  rw [entryOf_undefined op h] at hsome
  obtain ⟨i, hi⟩ := Option.isSome_iff_exists.1 hsome
  obtain ⟨hop, hunk, -⟩ := unknownOf_opcode op i hi
  exact ⟨i, hop, hunk⟩

/-- Every byte is one of the four defined opcodes or an unknown instruction's (R98, R99). -/
theorem opcode_cases (op : Byte) :
    op = 0xA9 ∨ op = 0xA5 ∨ op = 0xB5 ∨ op = 0x20 ∨ ∃ i, opcodeOf i = op ∧ isUnknown i = true := by
  cases h : isDefinedOpcode op with
  | false => exact .inr (.inr (.inr (.inr (exists_unknown_of_undefined op h))))
  | true =>
    have hop : op = 0xA9 ∨ op = 0xA5 ∨ op = 0xB5 ∨ op = 0x20 := by simpa [isDefinedOpcode, or_assoc] using h
    obtain h | h | h | h := hop <;> simp [h]

/-- The chart lists every unknown instruction at its own byte; `unknownOf_opcode` is the converse. -/
theorem unknownOf_opcodeOf (i : Instr) (h : isUnknown i = true) : unknownOf (opcodeOf i) = some i := by
  cases i with
  | ldaImm | ldaZp | ldaZpx | jsrAbs => cases h
  | _ => rfl

/-- R96: an unknown instruction has no operand byte. -/
theorem operandsOf_of_isUnknown (i : Instr) (h : isUnknown i = true) : operandsOf i = [] := by
  obtain ⟨-, -, hops⟩ := unknownOf_opcode _ i (unknownOf_opcodeOf i h)
  exact hops

/-! The decoder and the encoder. -/

theorem decode_jsrAbs (lo hi : Byte) (rest : List Byte) :
    decode (0x20 :: lo :: hi :: rest) = .ok (.jsrAbs (wordOf hi lo), rest) := rfl

/-- R96, R99: an unknown instruction is its opcode byte alone. -/
theorem decode_opcodeOf_of_isUnknown (i : Instr) (rest : List Byte) (h : isUnknown i = true) :
    decode (opcodeOf i :: rest) = .ok (i, rest) := by
  simp only [decode, mode_of_isUnknown i h, unknownOf_opcodeOf i h]

/-- Settles O1: the three formats with operands, whose word is reassembled from its two bytes, and the unknown opcodes
through their chart. -/
theorem decodeEncodeEveryInstruction : Obligations.DecodeEncodeEveryInstruction := by
  unfold Obligations.DecodeEncodeEveryInstruction
  intro i rest
  obtain ⟨v, rfl⟩ | ⟨zp, rfl⟩ | ⟨zp, rfl⟩ | ⟨target, rfl⟩ | hunk := instr_cases i
  · rfl
  · rfl
  · rfl
  · calc decode (0x20 :: lowByte target :: highByte target :: rest)
        = .ok (.jsrAbs (wordOf (highByte target) (lowByte target)), rest) := decode_jsrAbs _ _ rest
      _ = .ok (.jsrAbs target, rest) := by rw [wordOf_high_low]
  · rw [encode, operandsOf_of_isUnknown i hunk]
    exact decode_opcodeOf_of_isUnknown i rest hunk

/-- Settles O2: by the opcode byte; bytes that end inside an operand do not decode. -/
theorem decodedBytesAreTheEncoding : Obligations.DecodedBytesAreTheEncoding := by
  unfold Obligations.DecodedBytesAreTheEncoding
  intro bytes rest i h
  obtain _ | ⟨op, bytes⟩ := bytes
  · cases h
  obtain rfl | rfl | rfl | rfl | ⟨j, rfl, hunk⟩ := opcode_cases op
  case inr.inr.inr.inl =>
    obtain _ | ⟨lo, _ | ⟨hi, bytes⟩⟩ := bytes
    · cases h
    · cases h
    · rw [decode_jsrAbs] at h
      cases h
      simp [encode, opcodeOf, operandsOf]
  case inr.inr.inr.inr =>
    rw [decode_opcodeOf_of_isUnknown j bytes hunk] at h
    cases h
    rw [encode, operandsOf_of_isUnknown i hunk]
    rfl
  all_goals
    cases bytes <;> cases h
    rfl

/-! Lengths and operands. -/

/-- R91: the check of an operand list is the check of its length. -/
theorem wellFormedOperands_iff (mode : AddrMode) (operands : List Byte) :
    wellFormedOperands mode operands = true ↔ operands.length = operandBytes mode := by
  cases mode <;> obtain _ | ⟨_, _ | ⟨_, _ | _⟩⟩ := operands <;> simp [wellFormedOperands, operandBytes]

/-- R91: every instruction has as many operand bytes as its opcode's mode takes. -/
theorem length_operandsOf (i : Instr) : (operandsOf i).length = operandBytes (entryOf (opcodeOf i)).mode := by
  obtain ⟨v, rfl⟩ | ⟨zp, rfl⟩ | ⟨zp, rfl⟩ | ⟨target, rfl⟩ | hunk := instr_cases i
  case inr.inr.inr.inr => rw [operandsOf_of_isUnknown i hunk, mode_of_isUnknown i hunk]; rfl
  all_goals rfl

/-- R101: an opcode byte and as many bytes as its mode takes, whatever their values, are an instruction's encoding. -/
theorem exists_encode_eq (op : Byte) (operands : List Byte) (h : operands.length = operandBytes (entryOf op).mode) :
    ∃ i, encode i = op :: operands := by
  obtain rfl | rfl | rfl | rfl | ⟨i, rfl, hunk⟩ := opcode_cases op
  · obtain ⟨v, rfl⟩ := List.length_eq_one_iff.1 h
    exact ⟨.ldaImm v, rfl⟩
  · obtain ⟨zp, rfl⟩ := List.length_eq_one_iff.1 h
    exact ⟨.ldaZp zp, rfl⟩
  · obtain ⟨zp, rfl⟩ := List.length_eq_one_iff.1 h
    exact ⟨.ldaZpx zp, rfl⟩
  · obtain ⟨lo, hi, rfl⟩ := List.length_eq_two.1 h
    exact ⟨.jsrAbs (wordOf hi lo), by simp [encode, opcodeOf, operandsOf]⟩
  · rw [mode_of_isUnknown i hunk] at h
    obtain rfl := List.eq_nil_of_length_eq_zero h
    exact ⟨i, by rw [encode, operandsOf_of_isUnknown i hunk]⟩

/-- What a decoded byte string consists of, byte by byte (R90). -/
theorem decode_cons_inv (op : Byte) (bytes rest : List Byte) (i : Instr) (h : decode (op :: bytes) = .ok (i, rest)) :
    opcodeOf i = op ∧ operandsOf i ++ rest = bytes :=
  List.cons.inj (decodedBytesAreTheEncoding (op :: bytes) rest i h)

/-- Settles O3: the operand bytes of a whole instruction are its own, and bytes of the right number are an encoding. -/
theorem decoderTakesExactlyTheModesOperands : Obligations.DecoderTakesExactlyTheModesOperands := by
  unfold Obligations.DecoderTakesExactlyTheModesOperands
  intro op operands
  rw [wellFormedOperands_iff]
  constructor
  · rintro ⟨i, h⟩
    obtain ⟨rfl, rfl⟩ := decode_cons_inv op operands [] i h
    rw [List.append_nil, length_operandsOf]
  · intro h
    obtain ⟨i, hi⟩ := exists_encode_eq op operands h
    have hdecode := decodeEncodeEveryInstruction i []
    rw [hi, List.append_nil] at hdecode
    exact ⟨i, hdecode⟩

/-- Settles O4: by the opcode byte. -/
theorem everyOpcodeByteSelectsOneBehaviour : Obligations.EveryOpcodeByteSelectsOneBehaviour := by
  unfold Obligations.EveryOpcodeByteSelectsOneBehaviour
  intro op b1 b2
  obtain rfl | rfl | rfl | rfl | ⟨i, rfl, hunk⟩ := opcode_cases op
  case inr.inr.inr.inr =>
    obtain ⟨hA9, hA5, hB5, h20⟩ := (isDefinedOpcode_eq_false_iff _).1 (isDefinedOpcode_of_isUnknown i hunk)
    refine ⟨i, _, decode_opcodeOf_of_isUnknown i [b1, b2] hunk, rfl, ?_⟩
    rw [if_neg hA9, if_neg hA5, if_neg hB5, if_neg h20]
    exact ⟨hunk, rfl⟩
  all_goals exact ⟨_, _, rfl, rfl, rfl, rfl⟩

/-- Settles O5: a decoded instruction's bytes are its encoding, whose length is the mode's. -/
theorem opcodeByteDeterminesLength : Obligations.OpcodeByteDeterminesLength := by
  unfold Obligations.OpcodeByteDeterminesLength
  refine ⟨fun op bytes rest i h => ?_, rfl, rfl, rfl, rfl, rfl⟩
  obtain ⟨rfl, rfl⟩ := decode_cons_inv op bytes rest i h
  have hlength := length_operandsOf i
  simp only [List.length_cons, List.length_append]
  omega

/-- Settles O6: the table's four rows, and `entryOf_undefined` for every other byte. -/
theorem decoderEntryOfEveryByte : Obligations.DecoderEntryOfEveryByte :=
  ⟨rfl, rfl, rfl, rfl, fun b hA9 hA5 hB5 h20 =>
    entryOf_undefined b ((isDefinedOpcode_eq_false_iff b).2 ⟨hA9, hA5, hB5, h20⟩)⟩

/-- Settles O7: each word is the encoding of its instruction. -/
theorem specWordsDecode : Obligations.SpecWordsDecode :=
  have hdecode := decodeEncodeEveryInstruction
  ⟨hdecode (.ldaImm 0x84) [], hdecode (.ldaZp 0x42) [], hdecode (.ldaZpx 0x05) [], hdecode (.jsrAbs 0x1234) [],
    hdecode .unkFF [], hdecode .unk00 []⟩

/-- Settles O8: the addresses formed from operand bytes, as numbers. -/
theorem operandAssembly : Obligations.OperandAssembly := by
  unfold Obligations.OperandAssembly
  refine ⟨fun v => decodeEncodeEveryInstruction (.ldaImm v) [], zeroPageAddr_toNat, fun zp x => ?_, fun lo hi =>
    ⟨decode_jsrAbs lo hi [], wordOf_toNat hi lo⟩⟩
  rw [zeroPageAddr_toNat, BitVec.toNat_add]

/-- Settles O23: every byte the four defined instructions leave has its place in the chart. -/
theorem unknownOpcodesAreAllOtherBytes : Obligations.UnknownOpcodesAreAllOtherBytes := by
  unfold Obligations.UnknownOpcodesAreAllOtherBytes
  intro op
  constructor
  · exact exists_unknown_of_undefined op
  · rintro ⟨i, rfl, hunk⟩
    exact isDefinedOpcode_of_isUnknown i hunk

end Sys2Proof.Proofs
end

section
/-! PROOFS. The machine never refuses a step: no byte traps, and every transaction is answered (30_encoding.md R99,
60_exceptions.md R180). -/

namespace Sys2Proof.Proofs

open Sys2Proof.Machine Sys2Proof.Laws

/-- Every instruction gives a next state, the fault among them (R100, R182). -/
theorem exec_next (i : Instr) (s : State) : ∃ t, exec i s = .next t := by
  by_cases hfault : Faults i s.pc s.sp
  · exact ⟨_, exec_of_faults i s hfault⟩
  · exact ⟨_, exec_of_not_faults i s hfault⟩

/-- A step of a run always gives a next state: three bytes at PC begin with an instruction. -/
theorem step_running_next (s : State) (hrun : s.status = .running) : ∃ t, step s = .next t := by
  by_cases hcyc : 0 < s.cyc
  · obtain ⟨i, rest, hi⟩ := codeBytes_decode s.mem s.pc
    rw [step_eq_exec s i rest hrun hcyc hi]
    exact exec_next i s
  · exact ⟨_, step_eq_endRun s hrun (Int.not_lt.1 hcyc)⟩

/-- Settles O54: a run's step gives a next state, and between runs a transaction is served, or the machine holds, or it
stops with its fault. -/
theorem noStepIsRefused : Obligations.NoStepIsRefused := by
  unfold Obligations.NoStepIsRefused
  intro s why h
  by_cases hrun : s.status = .running
  · obtain ⟨t, ht⟩ := step_running_next s hrun
    rw [ht] at h
    cases h
  · cases hp : s.pending with
    | nil =>
      rw [step_not_running s hrun, hostTurn, hp] at h
      cases hs : s.status <;> simp only [hs] at h <;> cases h
    | cons r rest =>
      rw [step_serves s r rest hrun hp] at h
      cases h

end Sys2Proof.Proofs
end

section
/-! PROOFS. The counted primitives, the addressing modes and the flag rule (40_engine_loop_and_primitives.md R122 to
R130), each primitive as one equation over every address. -/

namespace Sys2Proof.Proofs

open Sys2Proof.Machine Sys2Proof.Laws

/-- R124. -/
theorem readByte_eq (addr : Addr) (s : State) :
    readByte addr s =
      if addr.toNat < 65536 then .ok (s.mem.read addr.toNat, { s with cyc := s.cyc - 1 })
      else .error (.outOfRange addr) := by
  split
  · next h => exact readByte_ok addr s h
  · next h => exact readByte_fault addr s (Nat.not_lt.1 h)

/-- R123. -/
theorem fetchWord_eq (s : State) :
    fetchWord s =
      if s.pc = 0xFFFF then .error (.outOfRange 0x10000)
      else .ok (wordOf (s.mem.read (s.pc.toNat + 1)) (s.mem.read s.pc.toNat),
        { s with pc := s.pc + 2, cyc := s.cyc - 2 }) := by
  split
  · next h => exact fetchWord_top s h
  · next h => exact fetchWord_ok s h

/-- R125. -/
theorem writeWordCounted_eq (addr : Addr) (v : Word) (s : State) :
    writeWordCounted addr v s =
      if 65536 ≤ addr.toNat then .error (.outOfRange addr)
      else if addr.toNat = 0xFFFF then .error (.outOfRange 0x10000)
      else .ok { s with
        mem := (s.mem.write addr.toNat (lowByte v)).write (addr.toNat + 1) (highByte v)
        cyc := s.cyc - 2 } := by
  obtain h | h | h := word_access_cases addr
  · rw [writeWordCounted_ok addr v s h, if_neg (by omega), if_neg (by omega)]
  · rw [writeWordCounted_top addr v s h, if_neg (by omega), if_pos h]
  · rw [writeWordCounted_fault addr v s h, if_pos h]

/-- R129. -/
theorem modeAbsolute_eq (target : Word) (s : State) :
    modeAbsolute target s =
      if s.pc = 0xFFFF then .error (.outOfRange 0x10000)
      else .ok (target, { s with pc := s.pc + 2, cyc := s.cyc - 2 }) := by
  split
  · next h => exact modeAbsolute_top target s h
  · next h => exact modeAbsolute_ok target s h

/-- Settles O13: one equation per primitive, and a zero-page address is below 65536. -/
theorem bytePrimitives : Obligations.BytePrimitives := ⟨fetchByte_eq, readByte_eq, readByte_zeroPage⟩

/-- Settles O14: one equation per primitive. -/
theorem wordPrimitives : Obligations.WordPrimitives := ⟨fetchWord_eq, writeWordCounted_eq, modeAbsolute_eq⟩

/-- Settles O15: the modes' equations, and the zero-page address of an 8-bit sum as a number. -/
theorem addressingModes : Obligations.AddressingModes := by
  unfold Obligations.AddressingModes
  refine ⟨modeImmediate_eq, fun zp s => ⟨modeZeroPage_eq zp s, zeroPageAddr_toNat zp⟩, fun zp s => ?_⟩
  have haddr : (zeroPageAddr (zp + s.x)).toNat = (zp.toNat + s.x.toNat) % 256 := by
    rw [zeroPageAddr_toNat, BitVec.toNat_add]
  refine ⟨?_, haddr, by omega⟩
  rw [modeZeroPageX_eq, Int.sub_sub]
  rfl

/-- A byte's bit 7 is set from 0x80 on (R32, R130). -/
theorem negativeFlag_eq_decide (v : Byte) : negativeFlag v = decide (0x80 ≤ v.toNat) := by
  rw [negativeFlag, ← BitVec.msb_eq_getLsbD_last, BitVec.msb_eq_decide]

/-- Every LDA loads a byte (R150 to R152). -/
theorem effectOf_load_of_lda (i : Instr) (x : Byte) (pc sp : Word) (m : Memory)
    (h : (entryOf (opcodeOf i)).op = .lda) : ∃ v, (effectOf i x pc sp m).load = some v := by
  obtain ⟨v, rfl⟩ | ⟨zp, rfl⟩ | ⟨zp, rfl⟩ | ⟨target, rfl⟩ | hunk := instr_cases i
  case inr.inr.inr.inl => cases h
  case inr.inr.inr.inr =>
    rw [entryOf_undefined _ (isDefinedOpcode_of_isUnknown i hunk)] at h
    cases h
  all_goals exact ⟨_, rfl⟩

/-- R130: the truth table of `SetZN`, by the result's value. -/
theorem setZN_truth_table (v : Byte) (s : State) :
    (v = 0x00 → (setZN v s).z = true ∧ (setZN v s).n = false) ∧
    (1 ≤ v.toNat ∧ v.toNat ≤ 0x7F → (setZN v s).z = false ∧ (setZN v s).n = false) ∧
    (0x80 ≤ v.toNat → (setZN v s).z = false ∧ (setZN v s).n = true) := by
  have hz : 1 ≤ v.toNat → zeroFlag v = false := fun h => beq_false_of_ne (by bv_omega)
  simp only [setZN_z, setZN_n, negativeFlag_eq_decide, decide_eq_true_eq, decide_eq_false_iff_not]
  refine ⟨?_, fun ⟨hlow, hhigh⟩ => ⟨hz hlow, by omega⟩, fun h => ⟨hz (by omega), h⟩⟩
  rintro rfl
  exact ⟨rfl, by decide⟩

/-- Settles O16: the truth table by the byte's value; and an instruction's effect sets Z and N with the byte it loads,
which only an LDA does. -/
theorem flagRule : Obligations.FlagRule := by
  unfold Obligations.FlagRule
  refine ⟨fun v s => ⟨rfl, setZN_truth_table v s⟩, fun i s t _ hexec ht => ?_⟩
  obtain ⟨-, rfl⟩ := completes_of_running i s t hexec ht
  refine ⟨rfl, rfl, rfl, rfl, rfl, ?_⟩
  split
  · next hlda =>
    obtain ⟨v, hv⟩ := effectOf_load_of_lda i s.x s.pc s.sp s.mem hlda
    simp only [Effect.apply, hv]
    exact ⟨rfl, rfl⟩
  · next hother =>
    obtain ⟨hload, -⟩ := effectOf_frame i s.x s.pc s.sp s.mem
    simp only [Effect.apply, hload hother]
    exact ⟨rfl, rfl⟩

end Sys2Proof.Proofs
end

section
/-! PROOFS. The cost of an instruction and the end of a run (40_engine_loop_and_primitives.md R120, R131 to R138): a
completed instruction takes between 1 and 6 cycles, so a run pays its budget off within as many instructions. -/

namespace Sys2Proof.Proofs

open Sys2Proof.Machine Sys2Proof.Laws

/-! What an instruction costs. -/

/-- The total of the opcode's entry, base cycles and extra, is what the instruction's effect takes (R131). -/
theorem cycles_effectOf (i : Instr) (x : Byte) (pc sp : Word) (m : Memory) :
    (effectOf i x pc sp m).cycles =
      ((entryOf (opcodeOf i)).baseCycles + (entryOf (opcodeOf i)).extra : Nat) := by
  obtain ⟨v, rfl⟩ | ⟨zp, rfl⟩ | ⟨zp, rfl⟩ | ⟨target, rfl⟩ | hunk := instr_cases i
  case inr.inr.inr.inr =>
    rw [effectOf_isUnknown i _ _ _ _ hunk, entryOf_undefined _ (isDefinedOpcode_of_isUnknown i hunk)]
    rfl
  all_goals rfl

/-- Settles O31: the cycles of the instruction's effect, and the table's totals. -/
theorem cycleTotals : Obligations.CycleTotals := by
  unfold Obligations.CycleTotals
  refine ⟨fun i s t _ hexec ht => ?_, rfl, rfl, rfl, rfl, fun b hb => by rw [entryOf_undefined b hb]; rfl⟩
  obtain ⟨-, rfl⟩ := completes_of_running i s t hexec ht
  exact congrArg (s.cyc - ·) (cycles_effectOf i s.x s.pc s.sp s.mem)

/-- The cheapest row of the table takes 1 cycle, an unknown opcode, and the dearest 6, JSR (R131). -/
theorem entryOf_cycles_bounds (b : Byte) :
    1 ≤ (entryOf b).baseCycles + (entryOf b).extra ∧ (entryOf b).baseCycles + (entryOf b).extra ≤ 6 := by
  unfold entryOf
  repeat' split
  all_goals decide

/-- What a completed instruction leaves of the count (R131, R132). -/
theorem effectOf_apply_cyc_bounds (i : Instr) (x : Byte) (pc sp : Word) (m : Memory) (s : State) :
    s.cyc - 6 ≤ ((effectOf i x pc sp m).apply s).cyc ∧ ((effectOf i x pc sp m).apply s).cyc ≤ s.cyc - 1 := by
  have hcyc : ((effectOf i x pc sp m).apply s).cyc = s.cyc - (effectOf i x pc sp m).cycles := rfl
  have hbounds := entryOf_cycles_bounds (opcodeOf i)
  rw [hcyc, cycles_effectOf]
  omega

/-! What a step of a run leads to. -/

/-- Settles O58: an instruction is begun with CYC at least 1 and takes at most 6, and a run begins with a budget that
is at least 1; every other step leaves CYC alone or is out of a run. -/
theorem stepKeepsCycBound : Obligations.StepKeepsCycBound := by
  unfold Obligations.StepKeepsCycBound
  intro s t ⟨hlow, hbudget⟩ hstep
  have hrest : ∀ r rest, s.pending = r :: rest → ∀ budget, HostRequest.run budget ∈ rest → 1 ≤ budget :=
    fun r rest hp budget hb => hbudget budget (hp ▸ List.mem_cons_of_mem r hb)
  cases stepTo_of_step s t hstep with
  | endsRun hrun hcyc => exact ⟨⟨nofun, hbudget⟩, fun _ _ => ⟨hlow hrun, hcyc⟩⟩
  | completes i hrun hcyc =>
    have hpaid := effectOf_apply_cyc_bounds i s.x s.pc s.sp s.mem s
    exact ⟨⟨fun _ => by omega, hbudget⟩, fun _ hidle => nomatch hrun.symm.trans hidle⟩
  | faults => exact ⟨⟨nofun, hbudget⟩, fun _ => nofun⟩
  | holds hout => exact ⟨⟨hlow, hbudget⟩, fun hrun => absurd hrun hout⟩
  | answers _ _ _ hout hp => exact ⟨⟨hlow, hrest _ _ hp⟩, fun hrun => absurd hrun hout⟩
  | resets _ hout hp => exact ⟨⟨nofun, hrest _ _ hp⟩, fun hrun => absurd hrun hout⟩
  | loads _ _ _ _ hidle hp => exact ⟨⟨hlow, hrest _ _ hp⟩, fun hrun => nomatch hrun.symm.trans hidle⟩
  | beginsRun budget rest hidle hp =>
    have hpos : 1 ≤ budget := hbudget budget (hp ▸ List.mem_cons_self)
    exact ⟨⟨fun _ => Int.le_trans (by decide) hpos, hrest _ _ hp⟩, fun _ => nofun⟩

/-- Settles O55: the three ways a step inside a run can go. -/
theorem aStepOfARun : Obligations.AStepOfARun := by
  unfold Obligations.AStepOfARun
  intro s hrun
  obtain ⟨t, ht⟩ := step_running_next s hrun
  refine ⟨t, ht, ?_⟩
  cases stepTo_of_step s t ht with
  | endsRun _ hcyc => exact .inr (.inl ⟨rfl, rfl, hcyc⟩)
  | completes => exact .inl hrun
  | faults => exact .inr (.inr ⟨rfl, rfl, rfl⟩)
  | holds hout | answers _ _ _ hout | resets _ hout => exact absurd hrun hout
  | loads _ _ _ _ hidle | beginsRun _ _ hidle => exact nomatch hrun.symm.trans hidle

/-- An engine's step with CYC > 0 takes the fault, or goes on with 1 to 6 cycles paid (R120, R131). -/
theorem step_pays (s : State) (hrun : s.status = .running) (hcyc : 0 < s.cyc) :
    ∃ t, step s = .next t ∧
      (t.status = .faulted 0x10000 ∨ t.status = .running ∧ s.cyc - 6 ≤ t.cyc ∧ t.cyc ≤ s.cyc - 1) := by
  obtain ⟨i, rest, hi⟩ := codeBytes_decode s.mem s.pc
  rw [step_eq_exec s i rest hrun hcyc hi]
  by_cases hfault : Faults i s.pc s.sp
  · exact ⟨_, exec_of_faults i s hfault, .inl rfl⟩
  · exact ⟨_, exec_of_not_faults i s hfault, .inr ⟨hrun, effectOf_apply_cyc_bounds i s.x s.pc s.sp s.mem s⟩⟩

/-- Settles O40: one instruction takes at least the one cycle there is. -/
theorem budgetOneRunsOneInstruction : Obligations.BudgetOneRunsOneInstruction := by
  unfold Obligations.BudgetOneRunsOneInstruction
  intro s hrun hone
  obtain ⟨t, ht, hfault | ⟨htrun, -, hpaid⟩⟩ := step_pays s hrun (by omega)
  · exact ⟨t, ht, .inl hfault⟩
  · have hend : t.cyc ≤ 0 := by omega
    exact ⟨t, ht, .inr ⟨htrun, hend, step_eq_endRun t htrun hend⟩⟩

/-! How long a run lasts. -/

/-- `k` steps lead from `s` to `t`, each of them an instruction: begun inside the run with CYC > 0. -/
def RunsInstructions (k : Nat) (s t : State) : Prop :=
  runSteps k s = .next t ∧ ∀ j < k, ∃ u, runSteps j s = .next u ∧ u.status = .running ∧ 0 < u.cyc

theorem runsInstructions_zero (s : State) : RunsInstructions 0 s s := ⟨rfl, nofun⟩

theorem runsInstructions_succ (k : Nat) (s u t : State) (hrun : s.status = .running) (hcyc : 0 < s.cyc)
    (hstep : step s = .next u) (h : RunsInstructions k u t) : RunsInstructions (k + 1) s t := by
  obtain ⟨hlast, hbegun⟩ := h
  refine ⟨(runSteps_succ_of_step k s u hstep).trans hlast, fun j hj => ?_⟩
  cases j with
  | zero => exact ⟨s, rfl, hrun, hcyc⟩
  | succ j =>
    rw [runSteps_succ_of_step j s u hstep]
    exact hbegun j (Nat.lt_of_succ_lt_succ hj)

/-- The run is over: its budget is spent, which ends it at the next boundary, or it has faulted (R132, R138). -/
def RunOver (t : State) : Prop :=
  (t.status = .running ∧ -5 ≤ t.cyc ∧ t.cyc ≤ 0) ∨ t.status = .faulted 0x10000

/-- Each instruction takes at least one cycle, so a budget of at most `n` is spent within `n` of them (R137). -/
theorem run_over_within (n : Nat) (s : State) (hrun : s.status = .running) (hlow : -5 ≤ s.cyc) (hn : s.cyc ≤ n) :
    ∃ k ≤ n, ∃ t, RunsInstructions k s t ∧ RunOver t := by
  induction n generalizing s with
  | zero => exact ⟨0, le_rfl, s, runsInstructions_zero s, .inl ⟨hrun, hlow, hn⟩⟩
  | succ n ih =>
    by_cases hcyc : 0 < s.cyc
    · obtain ⟨u, hu, hfault | ⟨hurun, hmost, hleast⟩⟩ := step_pays s hrun hcyc
      · exact ⟨1, by omega, u, runsInstructions_succ 0 s u u hrun hcyc hu (runsInstructions_zero u), .inr hfault⟩
      · obtain ⟨k, hk, t, hruns, hover⟩ := ih u hurun (by omega) (by omega)
        exact ⟨k + 1, by omega, t, runsInstructions_succ k s u t hrun hcyc hu hruns, hover⟩
    · exact ⟨0, by omega, s, runsInstructions_zero s, .inl ⟨hrun, hlow, by omega⟩⟩

/-- Settles O39: the run is over within CYC instructions, and with CYC > 0 not before the first. -/
theorem everyRunEnds : Obligations.EveryRunEnds := by
  unfold Obligations.EveryRunEnds
  intro s hrun hcyc
  obtain ⟨k, hk, t, ⟨hlast, hbegun⟩, hover⟩ := run_over_within s.cyc.toNat s hrun (by omega) (by omega)
  refine ⟨k, Nat.one_le_iff_ne_zero.2 fun hzero => ?_, by omega, hbegun, t, hlast, hover⟩
  subst hzero
  obtain rfl : s = t := Host.Outcome.next.inj hlast
  obtain ⟨-, -, hspent⟩ | hfault := hover
  · omega
  · cases hrun.symm.trans hfault

end Sys2Proof.Proofs
end

section
/-! PROOFS. The bounds of a run at the host's side (40_engine_loop_and_primitives.md R120, R136, R138): how it is asked
for, refused and ended, and the instruction a step of it executes (R121). -/

namespace Sys2Proof.Proofs

open Sys2Proof.Machine Sys2Proof.Laws

/-- R120. -/
theorem hostRun_idle (budget : Int) (s : State) (h : s.status = .idle) :
    hostRun budget s = { s with status := .running, cyc := budget } := by
  simp only [hostRun, h]

/-- R183, R213. -/
theorem hostRun_refused (budget : Int) (s : State) (h : s.status ≠ .idle) : hostRun budget s = reply .refused s := by
  cases hs : s.status with
  | idle => exact absurd hs h
  | notReset | running | faulted => simp only [hostRun, hs]

/-- The step that begins a run (R120). -/
theorem step_begins_run (s : State) (budget : Int) (rest : List HostRequest) (hidle : s.status = .idle)
    (hp : s.pending = .run budget :: rest) :
    step s = .next { s with status := .running, cyc := budget, pending := rest } := by
  rw [step_serves s (.run budget) rest (by simp [hidle]) hp, hostAct,
    hostRun_idle budget { s with pending := rest } hidle]

/-- Settles O37: the host's turn by STATUS, and the loop's end. -/
theorem runBeginsAndEnds : Obligations.RunBeginsAndEnds := by
  unfold Obligations.RunBeginsAndEnds
  refine ⟨step_begins_run, fun s budget rest hidle hrun hp => ?_, step_eq_endRun⟩
  rw [step_serves s (.run budget) rest hrun hp, hostAct, hostRun_refused budget { s with pending := rest } hidle]
  rfl

/-- Settles O38: the step after the one that begins the run finds nothing to spend, and ends it. -/
theorem nonPositiveBudgetRunsNothing : Obligations.NonPositiveBudgetRunsNothing := by
  unfold Obligations.NonPositiveBudgetRunsNothing
  intro s budget rest hidle hp hbudget
  rw [runSteps_succ_of_step 1 s _ (step_begins_run s budget rest hidle hp),
    runSteps_succ_of_step 0 _ _ (step_eq_endRun _ rfl hbudget), hidle]
  rfl

/-- Settles O29: the three bytes are those of `codeBytes`. -/
theorem stepRunsDecodedInstruction : Obligations.StepRunsDecodedInstruction := step_eq_exec

end Sys2Proof.Proofs
end

section
/-! PROOFS. Load Accumulator (41_load_accumulator.md R150 to R152): the result of each LDA, and the same from memory
through a step of a run. -/

namespace Sys2Proof.Proofs

open Sys2Proof.Machine Sys2Proof.Laws

/-- R130: the flags of a load, read off the loaded byte. -/
theorem loadA_eq (v : Byte) (s : State) :
    loadA v s = { s with a := v, z := decide (v = 0), n := v.getLsbD 7 } := rfl

/-- Settles O17: the equation of LDA Immediate, with the flags of its load. -/
theorem ldaImmediateResult : Obligations.LdaImmediateResult := by
  unfold Obligations.LdaImmediateResult
  intro v s
  rw [exec_ldaImm, loadA_eq]

/-- Settles O18: the equation of LDA Zero Page, with the flags of its load. -/
theorem ldaZeroPageResult : Obligations.LdaZeroPageResult := by
  unfold Obligations.LdaZeroPageResult
  intro zp s
  rw [exec_ldaZp, loadA_eq]

/-- Settles O19: the equation of LDA Zero Page,X, whose address is an 8-bit sum and so the sum modulo 256. -/
theorem ldaZeroPageXResult : Obligations.LdaZeroPageXResult := by
  unfold Obligations.LdaZeroPageXResult
  intro zp s
  refine ⟨s.mem.read (zp + s.x).toNat, ?_, ?_⟩
  · rw [BitVec.toNat_add]
  · rw [exec_ldaZpx, loadA_eq]

/-- In a run with CYC > 0, a step at the two bytes of an instruction's encoding is that instruction's meaning (R91,
R121). -/
theorem step_of_encode_eq_pair (i : Instr) (s : State) (hrun : s.status = .running) (hcyc : 0 < s.cyc)
    (henc : encode i = [s.mem.read s.pc.toNat, s.mem.read (s.pc + 1).toNat]) : step s = exec i s := by
  have hcode : codeBytes s.mem s.pc = encode i ++ [s.mem.read (s.pc + 2).toNat] := by rw [henc]; rfl
  exact step_eq_exec s i _ hrun hcyc (by rw [hcode]; exact decodeEncodeEveryInstruction i _)

/-- Settles O24: the step is the LDA Immediate of the byte after the opcode. -/
theorem stepLdaImmediate : Obligations.StepLdaImmediate := by
  unfold Obligations.StepLdaImmediate
  refine ⟨fun _ => rfl, fun s hrun hcyc hop => ⟨_, rfl, ?_⟩⟩
  rw [step_of_encode_eq_pair (.ldaImm (s.mem.read (s.pc + 1).toNat)) s hrun hcyc (by rw [hop]; rfl)]
  exact ldaImmediateResult _ s

/-- Settles O25: the step is the LDA Zero Page of the byte after the opcode. -/
theorem stepLdaZeroPage : Obligations.StepLdaZeroPage := by
  unfold Obligations.StepLdaZeroPage
  refine ⟨fun _ => rfl, fun s hrun hcyc hop => ⟨_, rfl, ?_⟩⟩
  rw [step_of_encode_eq_pair (.ldaZp (s.mem.read (s.pc + 1).toNat)) s hrun hcyc (by rw [hop]; rfl)]
  exact ldaZeroPageResult _ s

/-- Settles O26: the step is the LDA Zero Page,X of the byte after the opcode. -/
theorem stepLdaZeroPageX : Obligations.StepLdaZeroPageX := by
  unfold Obligations.StepLdaZeroPageX
  refine ⟨fun _ => rfl, fun s hrun hcyc hop => ?_⟩
  rw [step_of_encode_eq_pair (.ldaZpx (s.mem.read (s.pc + 1).toNat)) s hrun hcyc (by rw [hop]; rfl)]
  exact ldaZeroPageXResult _ s

end Sys2Proof.Proofs
end

section
/-! PROOFS. Subroutine call (42_subroutine_call.md R160, R161): the result of JSR and its faults, the same from memory
through a step of a run, and what a chain of calls leaves of the words it stored (70_reset_and_hazards.md R220). -/

namespace Sys2Proof.Proofs

open Sys2Proof.Machine Sys2Proof.Laws

/-- Settles O20: the equation of JSR, and the cells after its word is stored. -/
theorem jsrResult : Obligations.JsrResult := by
  unfold Obligations.JsrResult
  intro target s hpc hsp
  exact ⟨_, exec_jsrAbs_ok target s hpc hsp, read_write_word_low .., read_write_word_high ..,
    fun _ hlow hhigh => read_write_word_other _ _ _ _ _ hlow hhigh⟩

/-- Settles O21: both faults are taken from the state before the step. -/
theorem jsrFaults : Obligations.JsrFaults := by
  unfold Obligations.JsrFaults
  intro target s h
  exact ⟨_, exec_jsrAbs_fault target s h, rfl, rfl, rfl, rfl, rfl⟩

/-- Settles O27: the step is the JSR to the word after the opcode, and the address before that of the next instruction
is the JSR's own last byte. -/
theorem stepJsr : Obligations.StepJsr := by
  unfold Obligations.StepJsr
  refine ⟨fun _ => rfl, fun s hrun hcyc hop => ?_⟩
  have hret : s.pc + 3 - 1 = s.pc + 2 := by bv_omega
  rw [step_eq_exec s _ _ hrun hcyc (codeBytes_decode_jsr s.mem s.pc hop), hret]
  split
  · next hfault => exact jsrFaults _ s hfault
  · next hok =>
    obtain ⟨hpc, hsp⟩ := not_or.1 hok
    exact jsrResult _ s hpc hsp

/-! A chain of calls. -/

/-- The state after a JSR that completes (R160). -/
def afterCall (target : Word) (s : State) : State :=
  { s with
    pc := target
    sp := s.sp + 1
    cyc := s.cyc - 6
    mem := (s.mem.write s.sp.toNat (lowByte (s.pc + 2))).write (s.sp.toNat + 1) (highByte (s.pc + 2)) }

/-- The calls of a list of targets lead from `s` to `t`, each of them moving SP up by one
without wrap. -/
inductive Calls : List Word → State → State → Prop
  | nil (s : State) : Calls [] s s
  | cons (target : Word) (rest : List Word) (s t : State) (hsp : (afterCall target s).sp.toNat = s.sp.toNat + 1)
      (hrest : Calls rest (afterCall target s) t) : Calls (target :: rest) s t

/-- A call that leaves the run running has completed, with SP below the top of memory (R160, R182). -/
theorem jsrAbs_completes (target : Word) (s t : State) (hexec : exec (.jsrAbs target) s = .next t)
    (ht : t.status = .running) :
    t = afterCall target s ∧ (afterCall target s).sp.toNat = s.sp.toNat + 1 := by
  obtain ⟨hok, -⟩ := completes_of_running _ s t hexec ht
  have hpc : s.pc ≠ 0xFFFE := fun e => hok ⟨target, rfl, .inl e⟩
  have hsp : s.sp ≠ 0xFFFF := fun e => hok ⟨target, rfl, .inr e⟩
  rw [exec_jsrAbs_ok target s hpc hsp] at hexec
  exact ⟨(Host.Outcome.next.inj hexec).symm, word_succ_toNat s.sp hsp⟩

theorem calls_of_callChain (targets : List Word) (s t : State) (h : callChain targets s = some t) :
    Calls targets s t := by
  induction targets generalizing s with
  | nil =>
    obtain rfl : s = t := Option.some.inj h
    exact .nil s
  | cons target rest ih =>
    simp only [callChain] at h
    split at h
    · next u hexec =>
      split at h
      · next hrun =>
        obtain ⟨rfl, hsp⟩ := jsrAbs_completes target s u hexec hrun
        exact .cons target rest s t hsp (ih _ h)
      · cases h
    all_goals cases h

/-- SP moves up by one a call, without wrap (R160, R221). -/
theorem Calls.sp_toNat {targets : List Word} {s t : State} (h : Calls targets s t) :
    t.sp.toNat = s.sp.toNat + targets.length := by
  induction h with
  | nil => rfl
  | cons target rest s t hsp _ ih =>
    rw [ih, hsp, List.length_cons]
    omega

/-- No call stores below the SP it begins with, so the low byte of an earlier word survives (R220). -/
theorem Calls.read_below {targets : List Word} {s t : State} (h : Calls targets s t) (a : Nat)
    (ha : a < s.sp.toNat) : t.mem.read a = s.mem.read a := by
  induction h with
  | nil => rfl
  | cons target rest s t hsp _ ih =>
    rw [ih (by omega)]
    exact read_write_word_other _ _ _ _ _ (by omega) (by omega)

/-- R220: the low byte of every stored word. -/
theorem Calls.read_low {targets : List Word} {s t : State} (h : Calls targets s t) (k : Nat)
    (hk : k < targets.length) :
    t.mem.read (s.sp.toNat + k) = lowByte ((s.pc :: targets).getD k 0 + 2) := by
  induction h generalizing k with
  | nil => cases hk
  | cons target rest s t hsp hrest ih =>
    cases k with
    | zero => exact (hrest.read_below _ (by omega)).trans (read_write_word_low ..)
    | succ k =>
      have hlater := ih k (Nat.lt_of_succ_lt_succ hk)
      rwa [hsp, Nat.add_right_comm] at hlater

/-- R220: the high byte of the last word, which no later call overwrites. -/
theorem Calls.read_last_high {targets : List Word} {s t : State} (h : Calls targets s t)
    (hpos : 0 < targets.length) :
    t.mem.read (s.sp.toNat + targets.length) = highByte ((s.pc :: targets).getD (targets.length - 1) 0 + 2) := by
  induction h with
  | nil => cases hpos
  | cons target rest s t hsp hrest ih =>
    cases rest with
    | nil =>
      cases hrest
      exact read_write_word_high ..
    | cons next rest =>
      have hlater := ih (Nat.succ_pos _)
      rwa [hsp, Nat.add_right_comm] at hlater

/-- Settles O42: SP, the low bytes and the last high byte, each by induction over the calls. -/
theorem returnWordsOverlap : Obligations.ReturnWordsOverlap := by
  unfold Obligations.ReturnWordsOverlap
  intro targets s t _ hchain
  have hcalls := calls_of_callChain targets s t hchain
  exact ⟨hcalls.sp_toNat, hcalls.read_low, hcalls.read_last_high⟩

end Sys2Proof.Proofs
end

section
/-! PROOFS. The unknown opcode (43_unknown_opcode.md R170, R171): its result, the same from memory through a step of a
run, and a run of them over zeroed memory (70_reset_and_hazards.md R227). -/

namespace Sys2Proof.Proofs

open Sys2Proof.Machine Sys2Proof.Laws

/-- Settles O22: the equation of the unknown opcode, with its record written out. -/
theorem unknownOpcodeResult : Obligations.UnknownOpcodeResult := by
  unfold Obligations.UnknownOpcodeResult
  intro i s hunk
  rw [exec_isUnknown i s hunk]
  rfl

/-- Settles O28: an unknown opcode is its opcode byte alone, and its step is `step_unknown`. -/
theorem stepUnknownOpcode : Obligations.StepUnknownOpcode := by
  unfold Obligations.StepUnknownOpcode
  refine ⟨fun i hunk => ?_, step_unknown⟩
  rw [encode, operandsOf_of_isUnknown i hunk]

/-! Over zeroed memory. -/

/-- The state after `k` unknown opcodes 0x00 in a row from `s` (R170, R227). -/
def afterZeros (k : Nat) (s : State) : State :=
  { s with
    pc := s.pc + BitVec.ofNat 16 k
    cyc := s.cyc - k
    diag := s.diag ++ (List.range k).map fun j => { opcode := 0x00, addr := s.pc + BitVec.ofNat 16 j } }

theorem afterZeros_zero (s : State) : afterZeros 0 s = s := by
  simp [afterZeros]

/-- The first of `k + 1` unknown opcodes and then the other `k`: the records stay in order. -/
theorem afterZeros_succ (k : Nat) (s : State) : afterZeros (k + 1) s = afterZeros k (afterZeros 1 s) := by
  have hpc (j : Nat) : s.pc + BitVec.ofNat 16 (j + 1) = (afterZeros 1 s).pc + BitVec.ofNat 16 j := by
    rw [afterZeros, BitVec.add_assoc, ← BitVec.ofNat_add, Nat.add_comm]
  have hcyc : s.cyc - ((k + 1 : Nat) : Int) = (afterZeros 1 s).cyc - k := by simp only [afterZeros]; omega
  rw [afterZeros, hpc, hcyc, List.range_succ_eq_map, List.map_cons, List.map_map]
  simp only [Function.comp_def, Nat.succ_eq_add_one, hpc]
  simp [afterZeros]

/-- R227: an opcode fetched from zeroed memory is the unknown opcode 0x00. -/
theorem step_zeroed (s : State) (hrun : s.status = .running) (hcyc : 0 < s.cyc) (hzero : ∀ a, s.mem.read a = 0) :
    step s = .next (afterZeros 1 s) := by
  have hop : isDefinedOpcode (s.mem.read s.pc.toNat) = false := by rw [hzero]; rfl
  rw [step_unknown s hrun hcyc hop, hzero]
  simp [afterZeros]

/-- Settles O41: by induction on the number of steps, the first of them taken off. -/
theorem zeroedMemoryExecutes : Obligations.ZeroedMemoryExecutes := by
  unfold Obligations.ZeroedMemoryExecutes
  intro k s hrun hbudget hzero
  change runSteps k s = .next (afterZeros k s)
  induction k generalizing s with
  | zero => rw [afterZeros_zero]; rfl
  | succ k ih =>
    have hcyc : (k : Int) ≤ (afterZeros 1 s).cyc := Int.le_sub_right_of_add_le hbudget
    rw [runSteps_succ_of_step k s _ (step_zeroed s hrun (by omega) hzero), afterZeros_succ k s]
    exact ih (afterZeros 1 s) hrun hcyc hzero

end Sys2Proof.Proofs
end

section
/-! PROOFS. The fatal fault (60_exceptions.md R180 to R183, R195): which instruction raises it, what the host can do
with a faulted engine, and what the machine does when the host asks nothing. -/

namespace Sys2Proof.Proofs

open Sys2Proof.Machine Sys2Proof.Laws

/-! Which instruction faults. -/

/-- JSR is the one instruction of its operation (R96, R98). -/
theorem op_eq_jsr_iff (i : Instr) : (entryOf (opcodeOf i)).op = .jsr ↔ ∃ target, i = .jsrAbs target := by
  refine ⟨fun h => ?_, fun ⟨_, hi⟩ => hi ▸ rfl⟩
  obtain ⟨v, rfl⟩ | ⟨zp, rfl⟩ | ⟨zp, rfl⟩ | hjsr | hunk := instr_cases i
  case inr.inr.inr.inl => exact hjsr
  case inr.inr.inr.inr =>
    rw [entryOf_undefined _ (isDefinedOpcode_of_isUnknown i hunk)] at h
    cases h
  all_goals cases h

/-- `Faults`, read off the opcode's entry. -/
theorem faults_iff (i : Instr) (pc sp : Word) :
    Faults i pc sp ↔ (entryOf (opcodeOf i)).op = .jsr ∧ (pc = 0xFFFE ∨ sp = 0xFFFF) := by
  rw [op_eq_jsr_iff, Faults, exists_and_right]

/-- Settles O32: an instruction that faults is taken to `takeOutOfRange`, and one that does not completes, which leaves
STATUS alone. -/
theorem exactlyWhenAnInstructionFaults : Obligations.ExactlyWhenAnInstructionFaults := by
  unfold Obligations.ExactlyWhenAnInstructionFaults
  intro i s t hrun hexec
  rw [← faults_iff]
  by_cases hfault : Faults i s.pc s.sp
  · rw [exec_of_faults i s hfault] at hexec
    obtain rfl := Host.Outcome.next.inj hexec
    exact ⟨⟨fun _ => hfault, fun _ => nofun⟩, fun _ => ⟨rfl, rfl, rfl, rfl, rfl⟩⟩
  · rw [exec_of_not_faults i s hfault] at hexec
    obtain rfl := Host.Outcome.next.inj hexec
    exact ⟨⟨fun hstop => absurd hrun hstop, fun h => absurd h hfault⟩, fun hstop => absurd hrun hstop⟩

/-! The host and a faulted engine. -/

/-- R183: the fault can be inspected. -/
theorem hostInspect_faulted (s : State) (e : Addr) (h : s.status = .faulted e) :
    hostInspect s = reply (.snapshot (snapshotOf s)) s := by
  simp only [hostInspect, h]

/-- R210: Reset is served in every STATUS but that of a run. -/
theorem hostReset_eq (s : State) (h : s.status ≠ .running) :
    hostReset s = reply .done { State.reset with
      cyc := Config.freeInt s.free, free := s.free + 1, pending := s.pending, replies := s.replies } := by
  cases hs : s.status with
  | running => exact absurd hs h
  | notReset | idle | faulted => simp only [hostReset, hs]

/-- Settles O50: the step serves the transaction, each of the four by its equation in the faulted status. -/
theorem afterAFault : Obligations.AfterAFault := by
  unfold Obligations.AfterAFault
  intro s e rest hs
  have hout : s.status ≠ .running := by simp [hs]
  have hidle : s.status ≠ .idle := by simp [hs]
  refine ⟨fun budget hp => ?_, fun addr haddr hp => ?_, fun hp => ?_, fun hp => ?_⟩
  · rw [step_serves s (.run budget) rest hout hp, hostAct, hostRun_refused budget { s with pending := rest } hidle]
    rfl
  · rw [step_serves s (.read addr) rest hout hp, hostAct, hostRead_eq addr { s with pending := rest } (.inr ⟨e, hs⟩),
      if_pos haddr]
    rfl
  · refine ⟨snapshotOf { s with pending := rest }, rfl, rfl, rfl, ?_⟩
    rw [step_serves s .inspect rest hout hp, hostAct, hostInspect_faulted { s with pending := rest } e hs]
    rfl
  · refine ⟨Config.freeInt s.free, s.free + 1, ?_⟩
    rw [step_serves s .reset rest hout hp, hostAct, hostReset_eq { s with pending := rest } hout]
    rfl

/-! The host asks nothing. -/

/-- R195: a step the host gives no work is no change. -/
theorem hostTurn_holds (s : State) (hs : s.status = .idle ∨ s.status = .notReset) (hp : s.pending = []) :
    hostTurn s = .next s := by
  obtain hs | hs := hs <;> simp only [hostTurn, hp, hs]

/-- R183: without the host the fault is terminal. -/
theorem hostTurn_stops (s : State) (e : Addr) (hs : s.status = .faulted e) (hp : s.pending = []) :
    hostTurn s = .fault (.outOfRange e) := by
  simp only [hostTurn, hp, hs]

/-- Settles O53: out of a run the step is the host's turn, which finds no transaction waiting. -/
theorem nothingMovesWithoutTheHost : Obligations.NothingMovesWithoutTheHost := by
  unfold Obligations.NothingMovesWithoutTheHost
  refine ⟨fun s hs hp => ?_, fun s e hs hp => ?_⟩
  · have hout : s.status ≠ .running := by obtain hs | hs := hs <;> simp [hs]
    rw [step_not_running s hout, hostTurn_holds s hs hp]
  · rw [step_not_running s (by simp [hs]), hostTurn_stops s e hs hp]

end Sys2Proof.Proofs
end

section
/-! PROOFS. Reset out of a run (70_reset_and_hazards.md R210, R212). -/

namespace Sys2Proof.Proofs

open Sys2Proof.Machine Sys2Proof.Laws

/-- Settles O45: out of a run the step serves Reset, and `hostReset_eq` gives its state, with the next free value for
CYC. -/
theorem resetFromAnyState : Obligations.ResetFromAnyState := by
  unfold Obligations.ResetFromAnyState
  intro s rest hout hp
  refine ⟨Config.freeInt s.free, s.free + 1, ?_⟩
  rw [step_serves s .reset rest hout hp, hostAct, hostReset_eq { s with pending := rest } hout]
  rfl

end Sys2Proof.Proofs
end
